-- ==== Sys2Proof/Word.lean ====
section
/-! DEFINITION. The plain types that every other file uses: bytes, 16-bit counters, slot sets and the numbers of
slots, streams, taps and windows (00_scope.md, 4.5 and 4.6). -/

namespace Sys2Proof

/-- One byte of the host port, or the eight data bits of one trunk character (4.1). -/
abbrev Byte := BitVec 8

/-- A 16-bit counter (4.6). -/
abbrev Counter := BitVec 16

/-- Slot numbers 0 to 31 (4.5). -/
abbrev Slot := Fin 32

/-- Stream numbers 0 to 7 (4.5). -/
abbrev StreamNo := Fin 8

/-- Tap numbers 0 to 11 (4.5). -/
abbrev TapNo := Fin 12

/-- Windows W0 to W3 (4.5). -/
abbrev WindowNo := Fin 4

/-- A set of slots in the bit form of R185: bit k stands for slot k.  A list of slots that is ascending and holds no
slot twice (R84) carries the same information. -/
abbrev SlotSet := BitVec 32

end Sys2Proof
end

