-- ==== Sys2Proof/Config.lean ====
section
/-! DEFINITION. The free values: what the spec leaves open and the part settles in some way.  Each is an opaque constant,
so nothing can be proved of which way it goes. -/

namespace Sys2Proof.Config

/-- FREE VALUE (assumption log 1).  R110 and R123: when the station's own DATA frame completes with no buffer free and a
tap follows the own stream, either the stream's return or the tap's request may reach the pool first.  `true` says that
the return is taken first.  The argument is the number of open choices made before. -/
opaque poolReturnFirst : Nat → Bool

/-- FREE VALUE (assumption log 2).  R71 and R157: STOP appends the RELEASE records of several streams at one event, and
no rule gives their order in the queue.  The records stand in ascending rank.  The first argument is the number of open
choices made before. -/
opaque stopRank : Nat → StreamNo → Nat

end Sys2Proof.Config
end

