-- ==== Sys2Proof/Syntax.lean ====
section
/-! DEFINITION. The commands of the T632: one constructor for each row of spec/opcode_table.json, and the operands they
carry.  A request carries the bytes that the host clocks in after the request code; a trunk event carries what the line
shows at that event. -/

namespace Sys2Proof

/-- A line level (4.1). -/
inductive Level where
  | dominant | recessive
  deriving DecidableEq, Repr

/-- One bit time of RXD: the level with which it begins, and the level at its middle, where it is sampled (R127). -/
structure BitTime where
  begins : Level
  middle : Level
  deriving DecidableEq, Repr

/-- What RXD has carried in a segment up to an event: its bit times from a moment at which the line was recessive, which
lies `offset` bit times after the segment start. -/
structure Stretch where
  offset : Nat
  bits : List BitTime
  deriving DecidableEq, Repr

/-- A frame that the receive side has begun to assemble (7.1): the bit times from the segment start to the start bit of
char0, and the characters completed so far. -/
structure Reception where
  offset : Nat
  chars : List Byte
  deriving DecidableEq, Repr

/-- The body of a slot frame (R184): DATA with a payload, or KEEP. -/
inductive FrameBody where
  | data (payload : List Byte)
  | keep
  deriving DecidableEq, Repr

/-- A DATA or KEEP frame (R184).  The length field is the length of the payload. -/
structure SlotFrame where
  sender : Nat
  stream : StreamNo
  seq    : Byte
  body   : FrameBody
  deriving DecidableEq, Repr

/-- The commands.  A request is the bytes that the host clocks in one after another: the request code, which names the
command, and `bytes`: the argument count N and the argument bytes (R174), as far as they have come, and then one byte for
each byte of the answer, and of filler, that is clocked out (R172, R176).  `offset` of a received frame: bit times from
the segment start to the start bit of char0 (R138).  `rx` of a segment's end: what RXD has carried in the closing segment,
where it holds a frame that has not ended (R139); none says that the receive side has assembled no more than the state
records.  `rx` of an attempt's first bit: the same of the segment before that bit.  `offset` and `bits` of a receive error:
the stretch of the line up to the error.  `run`: the dominant run on the line at the event, before the first bit in the case
of an attempt's first bit, in bit times, 0 for a recessive line.  `bit`: the number, from 0, of the bit of the current
attempt that was read back wrong (R132). -/
inductive Instr where
  | setup (bytes : List Byte)
  | start (bytes : List Byte)
  | stop (bytes : List Byte)
  | softReset (bytes : List Byte)
  | openStream (bytes : List Byte)
  | closeStream (bytes : List Byte)
  | suspendStream (bytes : List Byte)
  | resumeStream (bytes : List Byte)
  | push (bytes : List Byte)
  | flush (bytes : List Byte)
  | tapOn (bytes : List Byte)
  | tapOff (bytes : List Byte)
  | pull (bytes : List Byte)
  | pullCommit
  | readStatus (bytes : List Byte)
  | readStream (bytes : List Byte)
  | readTap (bytes : List Byte)
  | readMap (bytes : List Byte)
  | readEvents (bytes : List Byte)
  | readEventsCommit
  | setEnables (bytes : List Byte)
  | unknownRequest (code : Byte) (bytes : List Byte)
  | selFalls
  | selRises
  | pinReset
  | pinResetRelease
  | initialisationEnd
  | breakRecognised (rx : Option Stretch)
  | lineDominant
  | heardBoundary
  | lapse (k : Slot)
  | confirmed (k : Slot)
  | quarantineEnd (k : Slot)
  | backoffEnd (n : StreamNo)
  | stalled (n : StreamNo)
  | closeLimit (n : StreamNo)
  | faultThreshold
  | mutePeriodEnd
  | join
  | markTimerExpiry (run : Nat) (rx : Option Stretch)
  | loneStart (run : Nat)
  | shortRunEnd (run : Nat) (stopBit : Bool)
  | slotStart (k : Slot) (rx : Option Stretch)
  | windowStart (w : WindowNo) (rx : Option Stretch)
  | gapStart (rx : Option Stretch)
  | attemptStart (run : Nat := 0) (rx : Option Stretch := none)
  | arbitrationMismatch (bit : Nat)
  | transmitFault (bit : Nat)
  | breakAttemptComplete
  | attemptComplete
  | markReceived (offset : Nat) (sender : Nat)
  | slotFrameReceived (offset : Nat) (frame : SlotFrame)
  | claimReceived (offset : Nat) (sender : Nat) (stream : StreamNo) (slots : SlotSet)
  | releaseReceived (offset : Nat) (sender : Nat) (stream : StreamNo) (slots : SlotSet)
  | objectReceived (offset : Nat) (sender : Nat) (stream : StreamNo) (slot : Slot) (aux : Nat)
  | receiveError (offset : Nat) (bits : List BitTime)
  deriving DecidableEq, Repr

end Sys2Proof
end

