-- ==== Sys2Proof/WellFormed.lean ====
section
/-! DEFINITION. Which operands a command can carry: what the host can clock in, and what the line can show. -/

namespace Sys2Proof

/-- The nineteen request codes (10.6). -/
def requestCodes : List Byte :=
  [16, 17, 18, 19, 32, 33, 34, 35, 36, 37, 48, 49, 50, 64, 65, 66, 67, 68, 80]

/-- A stretch of a segment of so many bit times, at its end (4.4). -/
def stretchFits (length : Nat) : Option Stretch → Bool
  | none => true
  | some x => x.offset + x.bits.length ≤ length

/-- A station address (4.5). -/
def addressFits (a : Nat) : Bool := 1 ≤ a && a ≤ 62

/-- A run that is not a break (4.2). -/
def shortRunFits (run : Nat) : Bool := run < 12

/-- A frame that is not MISPLACED starts less than 2 character times after its segment (R138). -/
def offsetFits (offset : Nat) : Bool := offset < 20

/-- The number of slots in a set. -/
def slotCount (s : SlotSet) : Nat := (List.finRange 32).countP fun k => s.getLsbD k

/-- A DATA payload has 0 to 32 bytes (R140). -/
def bodyFits : FrameBody → Bool
  | .data p => p.length ≤ 32
  | .keep => true

/-- The operands of a command, command by command. -/
def Instr.wellFormed : Instr → Bool
  | .setup _ | .start _ | .stop _ | .softReset _ | .openStream _ | .closeStream _ | .suspendStream _ | .resumeStream _
  | .push _ | .flush _ | .tapOn _ | .tapOff _ | .pull _ | .readStatus _ | .readStream _ | .readTap _ | .readMap _
  | .readEvents _ | .setEnables _ => true
  | .unknownRequest code _ => !requestCodes.contains code
  | .pullCommit | .readEventsCommit | .selFalls | .selRises | .pinReset | .pinResetRelease | .initialisationEnd => true
  | .breakRecognised _ => true
  | .gapStart rx => stretchFits 120 rx
  | .slotStart k rx => stretchFits (if k = 0 then 30 else 400) rx
  | .windowStart w rx => stretchFits (if w = 0 then 400 else 120) rx
  | .lineDominant | .heardBoundary | .faultThreshold | .mutePeriodEnd | .join => true
  | .lapse _ | .confirmed _ | .quarantineEnd _ => true
  | .backoffEnd _ | .stalled _ | .closeLimit _ => true
  | .markTimerExpiry run _ => shortRunFits run
  | .loneStart run => shortRunFits run
  | .shortRunEnd run _ => 1 ≤ run && shortRunFits run
  | .attemptStart run rx => shortRunFits run && stretchFits 10 rx
  | .breakAttemptComplete | .attemptComplete => true
  | .arbitrationMismatch bit | .transmitFault bit => bit < 380
  | .markReceived offset sender => offsetFits offset && addressFits sender
  | .slotFrameReceived offset f => offsetFits offset && addressFits f.sender && bodyFits f.body
  | .claimReceived offset sender _ slots | .releaseReceived offset sender _ slots =>
    offsetFits offset && addressFits sender && 1 ≤ slotCount slots && slotCount slots ≤ 8
  | .objectReceived offset sender _ _ aux => offsetFits offset && addressFits sender && aux ≤ 2
  | .receiveError _ bits => !bits.isEmpty

end Sys2Proof
end

