-- ==== Sys2Proof/Decode.lean ====
section
/-! DEFINITION. The command that a word spells.  spec/opcode_table.json gives no row any bits, and the block has no
instruction words: its commands are port requests, pin events and trunk events.  So no word spells a command. -/

namespace Sys2Proof

/-- No row of the table has bits: no word spells a command (assumption log 3). -/
def decodeTableWord (_nbits _w : Nat) : Option Instr := none

end Sys2Proof
end

