-- ==== Sys2Proof/Machine/State.lean ====
section
/-! DEFINITION. The state of the T632, block by block (00_scope.md, 3), as plain data, and the state after pin reset. -/

namespace Sys2Proof.Machine

open Sys2Proof

/-- The faults of the machine.  No rule makes the part stop: every error is a status code, a counter or a flag, so there
is no constructor. -/
inductive Fault where
  deriving DecidableEq, Repr

/-- The refusals of the machine. -/
inductive Refusal where
  /-- Raised by `exec` for a command without a meaning.  Safe: nothing is proved of such a command. -/
  | notModelled (mnemonic : String)
  deriving DecidableEq, Repr

/-! ### Station control (08_station_control.md) -/

/-- The six station states (8). -/
inductive StationState where
  | initialising | offline | listening | active | muted | leaving
  deriving DecidableEq, Repr

/-- The three bit rates (4.8). -/
inductive BitRate where
  | mbit1 | mbit2 | mbit4
  deriving DecidableEq, Repr

/-- The setup record (R145). -/
structure Setup where
  address        : Nat
  bitRate        : BitRate
  leaseLimit     : Nat
  attemptReload  : Nat
  receiveReserve : Nat
  deriving DecidableEq, Repr

/-- Station control's own items (R147, R150, R154). -/
structure Station where
  state         : StationState
  /-- R154: the verdicts of the last 16 boundaries, newest first; `true` is faulty. -/
  window        : List Bool
  faultMark     : Bool
  listenCount   : Nat
  muteRemaining : Nat
  startedTrunk  : Bool
  /-- R147, R149: CLKIN periods of the initialisation period, as of the last command. -/
  initCount     : Nat
  deriving DecidableEq, Repr

/-! ### The cycle timer (01_the_trunk_cycle.md, 1.1) -/

/-- The mark timer (1.1).  `armed` holds an expiry position in bit times; `armedCount` an expiry in character times
counted from the fault or the run's end while the position is UNSYNCHRONISED (R11, R12). -/
inductive MarkTimer where
  | disarmed
  | armed (expiry : Nat)
  | armedCount (characters : Nat)
  deriving DecidableEq, Repr

structure Timer where
  running         : Bool
  /-- Bit times since the last boundary, as of the last command; `none` is UNSYNCHRONISED. -/
  position        : Option Nat
  breakInProgress : Bool
  markTimer       : MarkTimer
  /-- R12, R129: the timer expired on a dominant line and waits for the run to be settled. -/
  awaitingRun     : Bool
  /-- R12, R16: the position at which the run began on which the mark timer or the lone start waits, where the position was
  synchronised (assumption log 19). -/
  runStart        : Option Nat
  markOwed        : Bool
  /-- R11: the position at which the station's own break began, where one has begun in this cycle and the position was
  synchronised (assumption log 19). -/
  breakStart      : Option Nat
  markSource      : Nat
  /-- R7: the mark source has been settled for the current cycle. -/
  markSettled     : Bool
  /-- Character times, as of the last command. -/
  loneStart       : Nat
  lineDominant    : Bool
  cycleCounter    : BitVec 16
  deriving DecidableEq, Repr

/-! ### The line unit (07_the_line_unit.md, 7.1) -/

/-- The kinds of an announcement (R185). -/
inductive AnnouncementKind where
  | object | release | claim
  deriving DecidableEq, Repr

/-- An announcement (R57, R185). -/
structure Announcement where
  kind   : AnnouncementKind
  sender : Nat
  stream : StreamNo
  slots  : SlotSet
  aux    : Nat
  deriving DecidableEq, Repr

/-- An attempt and its content (7.3). -/
inductive Attempt where
  | brk
  | mark (sender : Nat)
  | slotFrame (k : Slot) (frame : SlotFrame)
  | announcement (w : WindowNo) (content : Announcement)
  deriving DecidableEq, Repr

/-- The provisional outcome of a SETTLING attempt (R132). -/
inductive Provisional where
  | lost | fault
  deriving DecidableEq, Repr

/-- The transmit state with the current attempt, which is absent exactly in IDLE, and the provisional outcome, which is
present exactly in SETTLING (7.1, 7.3). -/
inductive Transmit where
  | idle
  | waiting (a : Attempt)
  | driving (a : Attempt)
  | settling (a : Attempt) (p : Provisional)
  deriving DecidableEq, Repr

/-- The current segment (7.1); `outside` is NONE. -/
inductive Segment where
  | outside
  | markTail
  | slot (k : Slot)
  | window (w : WindowNo)
  | gap
  deriving DecidableEq, Repr

/-- The segment condition (7.1): OPEN, RECEIVING, ENDED, DISCARDING. -/
inductive Condition where
  | opened | receiving | ended | discarding
  deriving DecidableEq, Repr

structure Line where
  /-- The receiver is ON. -/
  receiver    : Bool
  /-- Dominant bit times read on RXD, as of the last command; 0 for a recessive line. -/
  dominantRun : Nat
  segment     : Segment
  condition   : Condition
  assembly    : Option Reception
  transmit    : Transmit
  lostNote    : Bool
  rxErrors    : Counter
  /-- The level that TXD takes at the last command. -/
  txd         : Level
  deriving DecidableEq, Repr

/-! ### The slot map (02_the_slot_map.md, 2.1) -/

/-- The state of an entry with the fields that the state gives it (R20).  `detached` is read for own entries only and is
`false` on a foreign one. -/
inductive EntryState where
  | free
  | pending (owner : Nat) (stream : StreamNo) (confirm : Nat) (detached : Bool)
  | held (owner : Nat) (stream : StreamNo) (silent : Nat) (detached : Bool)
  | quarantine (count : Nat)
  deriving DecidableEq, Repr

/-- An entry of the slot map with its heard and reached marks. -/
structure Entry where
  state   : EntryState
  heard   : Bool
  reached : Bool
  deriving DecidableEq, Repr

/-- The slot map: 32 entries in slot order. -/
abbrev SlotMap := Vector Entry 32

/-! ### The announcement unit (03_announcements_and_claims.md, 3.1) -/

/-- A record of the announcement queue (R50). -/
inductive Record where
  | object (k : Slot)
  | release (n : StreamNo) (slots : SlotSet)
  deriving DecidableEq, Repr

/-- The announcement queue, oldest record first, and the in-flight offer.  The per-stream attempt, backoff and stall
fields stand with the streams. -/
structure AnnouncementUnit where
  queue : List Record
  offer : Option Announcement
  deriving DecidableEq, Repr

/-! ### The stream contexts (04_send_streams.md, 4.1) -/

/-- The stream states (R77); `opened` is OPEN. -/
inductive StreamState where
  | closed | claiming | degraded | opened | releasing
  deriving DecidableEq, Repr

/-- The in-flight DATA frame with its discard-on-return mark (4.1). -/
structure InFlight where
  payload : List Byte
  discard : Bool
  deriving DecidableEq, Repr

/-- A stream context, with the announcement unit's three fields for the stream (R48). -/
structure Stream where
  state      : StreamState
  suspended  : Bool
  wanted     : Nat
  held       : SlotSet
  pending    : SlotSet
  /-- Payloads, oldest at the head. -/
  queue      : List (List Byte)
  inFlight   : Option InFlight
  nextSeq    : Byte
  closeCount : Nat
  sent       : Counter
  requeued   : Counter
  lost       : Counter
  attempts   : Nat
  backoff    : Nat
  stall      : Nat
  deriving DecidableEq, Repr

/-! ### The taps (05_taps.md, 5.1) -/

inductive TapState where
  | off | waiting | live | stale
  deriving DecidableEq, Repr

inductive OverflowPolicy where
  | keepOldest | keepNewest
  deriving DecidableEq, Repr

/-- A frame of a receive queue (R102): the sequence number and payload as received. -/
structure RxFrame where
  seq     : Byte
  payload : List Byte
  deriving DecidableEq, Repr

/-- A tap context.  `pullMark` says that the head of the queue carries the pull mark: a mark is given to the head
(R106), the head leaves with it (R112), and frames are appended behind (R110). -/
structure Tap where
  state         : TapState
  source        : Nat
  sourceStream  : StreamNo
  policy        : OverflowPolicy
  queue         : List RxFrame
  pullMark      : Bool
  expected      : Byte
  gaps          : Counter
  fullDrops     : Counter
  noBufferDrops : Counter
  deriving DecidableEq, Repr

/-! ### The event latch (09_events_and_the_attention_line.md) -/

/-- The 66 flags and reported marks, the 12 enables and the ATTN output.  The places of the bits are those of
`Flag.index` and `Kind.index`. -/
structure EventLatch where
  flags    : BitVec 66
  reported : BitVec 66
  enables  : BitVec 12
  attn     : Bool
  deriving DecidableEq, Repr

/-! ### The host port (10_host_port_and_format_tables.md, 10.2) -/

inductive Phase where
  | deselected | code | count | arguments | answer | filler
  deriving DecidableEq, Repr

/-- The commit that a taken PULL or READ_EVENTS still has before it (R178). -/
inductive Commit where
  | pull (t : TapNo)
  | readEvents
  deriving DecidableEq, Repr

structure Port where
  phase        : Phase
  statusPrefix : Option Byte
  code         : Option Byte
  count        : Option Byte
  args         : List Byte
  /-- The status byte and the response data. -/
  answer       : List Byte
  answered     : Nat
  /-- The bytes that SDO has carried in the selection, oldest first (R172 to R174, R176). -/
  shifted      : List Byte
  held         : Bool
  pendingReset : Bool
  owes         : Option Commit
  deriving DecidableEq, Repr

/-- The levels of the two input pins that commands move: RESETN and SELN, `true` for low. -/
structure Pins where
  resetLow : Bool
  selLow   : Bool
  deriving DecidableEq, Repr

/-! ### The whole -/

structure State where
  setup    : Setup
  station  : Station
  timer    : Timer
  line     : Line
  map      : SlotMap
  ann      : AnnouncementUnit
  streams  : Vector Stream 8
  taps     : Vector Tap 12
  /-- The free count of the buffer pool (R119). -/
  freeBuffers : Nat
  latch    : EventLatch
  port     : Port
  pins     : Pins
  /-- The MODEL's own: how many open choices (Config) have been made. -/
  choices  : Nat
  /-- The MODEL's own: the commands that wait, first in, first out. -/
  pending  : List Instr
  deriving DecidableEq, Repr

/-! ### After pin reset -/

/-- R145: the setup record after pin reset. -/
def Setup.reset : Setup :=
  { address := 0, bitRate := .mbit2, leaseLimit := 4, attemptReload := 8, receiveReserve := 8 }

/-- R147. -/
def Station.reset : Station :=
  { state := .initialising, window := List.replicate 16 false, faultMark := false, listenCount := 0, muteRemaining := 0,
    startedTrunk := false, initCount := 0 }

/-- R18. -/
def Timer.reset : Timer :=
  { running := false, position := none, breakInProgress := false, markTimer := .disarmed, awaitingRun := false,
    runStart := none, markOwed := false, breakStart := none, markSource := 0, markSettled := true, loneStart := 0,
    lineDominant := false, cycleCounter := 0 }

/-- R144. -/
def Line.reset : Line :=
  { receiver := false, dominantRun := 0, segment := .outside, condition := .opened, assembly := none, transmit := .idle,
    lostNote := false, rxErrors := 0, txd := .recessive }

/-- R21. -/
def Entry.reset : Entry := { state := .free, heard := false, reached := false }

/-- R49. -/
def AnnouncementUnit.reset : AnnouncementUnit := { queue := [], offer := none }

/-- R76, and R49 for the attempt counter. -/
def Stream.reset (reload : Nat) : Stream :=
  { state := .closed, suspended := false, wanted := 0, held := 0, pending := 0, queue := [], inFlight := none,
    nextSeq := 0, closeCount := 0, sent := 0, requeued := 0, lost := 0, attempts := reload, backoff := 0, stall := 0 }

/-- R103. -/
def Tap.reset : Tap :=
  { state := .off, source := 0, sourceStream := 0, policy := .keepOldest, queue := [], pullMark := false, expected := 0,
    gaps := 0, fullDrops := 0, noBufferDrops := 0 }

/-- R171. -/
def EventLatch.reset : EventLatch := { flags := 0, reported := 0, enables := 0, attn := false }

/-- R181. -/
def Port.reset : Port :=
  { phase := .deselected, statusPrefix := none, code := none, count := none, args := [], answer := [], answered := 0,
    shifted := [], held := false, pendingReset := false, owes := none }

/-- Every block at its values after reset, with the given setup record and pin levels (R147, R148). -/
def State.afterReset (setup : Setup) (pins : Pins) (choices : Nat) (pending : List Instr) : State :=
  { setup := setup, station := .reset, timer := .reset, line := .reset, map := Vector.replicate 32 .reset, ann := .reset,
    streams := Vector.replicate 8 (.reset setup.attemptReload), taps := Vector.replicate 12 .reset, freeBuffers := 64,
    latch := .reset, port := .reset, pins := pins, choices := choices, pending := pending }

/-- The machine right after pin reset: RESETN has just returned high, SELN is high, the initialisation period begins
(R147, R149), and no command waits. -/
def State.reset : State := .afterReset .reset { resetLow := false, selLow := false } 0 []

end Sys2Proof.Machine
end

