-- ==== Sys2Proof/Machine/Operands.lean ====
section
/-! DEFINITION. Reading and writing the fields of requests and records: slot sets, counters, positions of the cycle,
request arguments and the bytes of response records. -/

namespace Sys2Proof.Machine

open Sys2Proof

/-! ### Slot sets -/

/-- All slots, ascending. -/
def allSlots : List Slot := List.finRange 32

/-- The set names the slot. -/
def SlotSet.has (s : SlotSet) (k : Slot) : Bool := s.getLsbD k

/-- The set of one slot. -/
def SlotSet.only (k : Slot) : SlotSet := BitVec.twoPow 32 k

/-- The set of the slots that satisfy a condition. -/
def SlotSet.ofPred (p : Slot → Bool) : SlotSet :=
  allSlots.foldl (fun s k => if p k then s ||| SlotSet.only k else s) 0

/-- The number of slots in a set. -/
def SlotSet.card (s : SlotSet) : Nat := slotCount s

/-- The slots of a set, ascending. -/
def SlotSet.toList (s : SlotSet) : List Slot := allSlots.filter (SlotSet.has s)

/-! ### Counters and sequence numbers (4.6) -/

/-- A 16-bit counter raised by `n`, stopping at 65535. -/
def Counter.raise (c : Counter) (n : Nat) : Counter := BitVec.ofNat 16 (min 65535 (c.toNat + n))

/-! ### Positions, in bit times from the boundary (4.4) -/

/-- The bit times of a number of characters (4.1). -/
def characterTimes (n : Nat) : Nat := 10 * n

/-- Slot k starts at position 3 + 40k (4.4). -/
def slotStartAt (k : Slot) : Nat := characterTimes (3 + 40 * k)

/-- Window w starts at position 1283 + 12w (4.4). -/
def windowStartAt (w : WindowNo) : Nat := characterTimes (1283 + 12 * w)

/-- The gap starts at position 1331 (4.4). -/
def gapStartAt : Nat := characterTimes 1331

/-- R8: the expiry position 1335 + own address. -/
def markExpiryAt (own : Nat) : Nat := characterTimes (1335 + own)

/-- R11, R12: 4 + own address, in character times. -/
def markRetry (own : Nat) : Nat := 4 + own

/-- The length of the lone-start count, in character times (R16). -/
def loneStartLimit : Nat := 5600

/-! ### Request arguments (10.6) -/

/-- A stream number, 0 to 7. -/
def streamArg (b : Byte) : Option StreamNo := if h : b.toNat < 8 then some ⟨b.toNat, h⟩ else none

/-- A tap number, 0 to 11. -/
def tapArg (b : Byte) : Option TapNo := if h : b.toNat < 12 then some ⟨b.toNat, h⟩ else none

/-- A station address, 1 to 62. -/
def addressArg (b : Byte) : Option Nat := if addressFits b.toNat then some b.toNat else none

/-- A bit rate in Mbit/s: 1, 2 or 4. -/
def bitRateArg (b : Byte) : Option BitRate :=
  if b = 1 then some .mbit1 else if b = 2 then some .mbit2 else if b = 4 then some .mbit4 else none

/-- A number between two bounds. -/
def rangeArg (low high : Nat) (b : Byte) : Option Nat := if low ≤ b.toNat ∧ b.toNat ≤ high then some b.toNat else none

/-- A policy: 0 KEEP_OLDEST, 1 KEEP_NEWEST. -/
def policyArg (b : Byte) : Option OverflowPolicy :=
  if b = 0 then some .keepOldest else if b = 1 then some .keepNewest else none

/-- R146: the five arguments of SETUP, each checked against its range. -/
def setupArgs : List Byte → Option Setup
  | [a, r, l, m, v] => do
    let address ← addressArg a
    let bitRate ← bitRateArg r
    let leaseLimit ← rangeArg 2 15 l
    let attemptReload ← rangeArg 1 15 m
    let receiveReserve ← rangeArg 0 32 v
    some { address, bitRate, leaseLimit, attemptReload, receiveReserve }
  | _ => none

/-- R79: the stream and the wanted count, 1 to 8. -/
def openStreamArgs : List Byte → Option (StreamNo × Nat)
  | [n, w] => do
    let stream ← streamArg n
    let wanted ← rangeArg 1 8 w
    some (stream, wanted)
  | _ => none

/-- The one argument of a request on a stream. -/
def streamArgs : List Byte → Option StreamNo
  | [n] => streamArg n
  | _ => none

/-- R183: the stream and the payload of PUSH. -/
def pushArgs : List Byte → Option (StreamNo × List Byte)
  | n :: payload => (streamArg n).map fun stream => (stream, payload)
  | [] => none

/-- R104: the arguments of TAP_ON. -/
def tapOnArgs : List Byte → Option (TapNo × Nat × StreamNo × OverflowPolicy)
  | [t, a, n, p] => do
    let tap ← tapArg t
    let source ← addressArg a
    let stream ← streamArg n
    let policy ← policyArg p
    some (tap, source, stream, policy)
  | _ => none

/-- The one argument of a request on a tap. -/
def tapArgs : List Byte → Option TapNo
  | [t] => tapArg t
  | _ => none

/-- R166, R189: the twelve enables; bits 15 to 12 must be 0. -/
def enablesArgs : List Byte → Option (BitVec 12)
  | [high, low] =>
    if high.extractLsb' 4 4 = 0 then some ((high ++ low).truncate 12) else none
  | _ => none

/-! ### Bytes of records (10.8) -/

/-- A small number as a byte. -/
def byteOf (n : Nat) : Byte := BitVec.ofNat 8 n

/-- Two bits above six, as in a mark character, char0 of an announcement, and the first byte of a map entry. -/
def topTwo (top : BitVec 2) (low : Nat) : Byte := top ++ BitVec.ofNat 6 low

/-- A yes-or-no item at a place in a byte. -/
def bitAt (place : Nat) (b : Bool) : Byte := if b then BitVec.twoPow 8 place else 0

/-- A 16-bit item, high byte first. -/
def word16 (c : BitVec 16) : List Byte := [c.extractLsb' 8 8, c.extractLsb' 0 8]

/-- A slot set in four bytes, slot 31 first (R185). -/
def slotSetBytes (s : SlotSet) : List Byte :=
  [s.extractLsb' 24 8, s.extractLsb' 16 8, s.extractLsb' 8 8, s.extractLsb' 0 8]

/-- The slot set of four bytes, slot 31 first (R185). -/
def slotSetOf (a b c d : Byte) : SlotSet := a ++ b ++ c ++ d

end Sys2Proof.Machine
end

