-- ==== Sys2Proof/Machine/Flags.lean ====
section
/-! DEFINITION. The event latch (09_events_and_the_attention_line.md): the twelve kinds, the 66 flags, the reported
marks, and the ATTN condition. -/

namespace Sys2Proof.Machine

open Sys2Proof

/-- The twelve event kinds (9.1). -/
inductive Kind where
  | ready | joined | left | muted | clash | rxError | change | drained | stalled | data | loss | stale
  deriving DecidableEq, Repr

/-- The kinds in the order of the enables (R189). -/
def Kind.all : List Kind :=
  [.ready, .joined, .left, .muted, .clash, .rxError, .change, .drained, .stalled, .data, .loss, .stale]

/-- The bit of a kind's enable (R189). -/
def Kind.index : Kind → Nat
  | .ready => 0 | .joined => 1 | .left => 2 | .muted => 3 | .clash => 4 | .rxError => 5
  | .change => 6 | .drained => 7 | .stalled => 8 | .data => 9 | .loss => 10 | .stale => 11

/-- The first of a kind's flags. -/
def Kind.first : Kind → Nat
  | .ready => 0 | .joined => 1 | .left => 2 | .muted => 3 | .clash => 4 | .rxError => 5
  | .change => 6 | .drained => 14 | .stalled => 22 | .data => 30 | .loss => 42 | .stale => 54

/-- How many flags a kind has (9.1). -/
def Kind.size : Kind → Nat
  | .change | .drained | .stalled => 8
  | .data | .loss | .stale => 12
  | _ => 1

/-- The 66 flags (9.1). -/
inductive Flag where
  | ready | joined | left | muted | clash | rxError
  | change (n : StreamNo) | drained (n : StreamNo) | stalled (n : StreamNo)
  | data (t : TapNo) | loss (t : TapNo) | stale (t : TapNo)
  deriving DecidableEq, Repr

/-- The kind of a flag. -/
def Flag.kind : Flag → Kind
  | .ready => .ready | .joined => .joined | .left => .left | .muted => .muted | .clash => .clash | .rxError => .rxError
  | .change _ => .change | .drained _ => .drained | .stalled _ => .stalled
  | .data _ => .data | .loss _ => .loss | .stale _ => .stale

/-- The place of a flag among its kind's flags. -/
def Flag.place : Flag → Nat
  | .change n | .drained n | .stalled n => n
  | .data t | .loss t | .stale t => t
  | _ => 0

/-- The bit of a flag: kind after kind in the order of 9.1. -/
def Flag.index (f : Flag) : Nat := f.kind.first + f.place

/-- The set of one flag. -/
def Flag.only (f : Flag) : BitVec 66 := BitVec.twoPow 66 f.index

/-- The set of all of a kind's flags. -/
def Kind.mask (k : Kind) : BitVec 66 := BitVec.ofNat 66 ((2 ^ k.size - 1) * 2 ^ k.first)

/-- R165: at least one latched flag's kind is enabled. -/
def attnCondition (flags : BitVec 66) (enables : BitVec 12) : Bool :=
  Kind.all.any fun k => enables.getLsbD k.index && flags &&& k.mask != 0

/-- R165: ATTN is judged again. -/
def EventLatch.judge (l : EventLatch) : EventLatch := { l with attn := attnCondition l.flags l.enables }

/-- R164, R168: the causes of a set of flags occur: each flag becomes set and loses its reported mark, and ATTN is judged
on the whole. -/
def EventLatch.causes (l : EventLatch) (m : BitVec 66) : EventLatch :=
  EventLatch.judge { l with flags := l.flags ||| m, reported := l.reported &&& ~~~m }

/-- R166: the twelve enables are written. -/
def EventLatch.enable (l : EventLatch) (e : BitVec 12) : EventLatch := EventLatch.judge { l with enables := e }

/-- R167: every set flag receives the reported mark. -/
def EventLatch.report (l : EventLatch) : EventLatch := { l with reported := l.flags }

/-- R169: the commit clears every flag that still carries the reported mark. -/
def EventLatch.commit (l : EventLatch) : EventLatch :=
  EventLatch.judge { l with flags := l.flags &&& ~~~l.reported, reported := 0 }

/-- R169: the abandon removes every reported mark and clears no flag. -/
def EventLatch.abandon (l : EventLatch) : EventLatch := { l with reported := 0 }

/-- A set of causes, in the state. -/
def State.causes (m : BitVec 66) (s : State) : State := { s with latch := s.latch.causes m }

/-- One cause, in the state. -/
def State.latches (f : Flag) (s : State) : State := State.causes f.only s

/-- The flags of the streams that satisfy a condition. -/
def streamFlags (flag : StreamNo → Flag) (p : StreamNo → Bool) : BitVec 66 :=
  (List.finRange 8).foldl (fun m n => if p n then m ||| (flag n).only else m) 0

/-- The flags of the taps that satisfy a condition. -/
def tapFlags (flag : TapNo → Flag) (p : TapNo → Bool) : BitVec 66 :=
  (List.finRange 12).foldl (fun m t => if p t then m ||| (flag t).only else m) 0

/-- R189: the twelve bytes of READ_EVENTS. -/
def EventLatch.record (l : EventLatch) : List Byte :=
  let stations : Byte := (l.flags.extractLsb' 0 6).setWidth 8
  let taps (first : Nat) : List Byte := word16 ((l.flags.extractLsb' first 12).setWidth 16)
  [stations, l.flags.extractLsb' 6 8, l.flags.extractLsb' 14 8, l.flags.extractLsb' 22 8]
    ++ taps 30 ++ taps 42 ++ taps 54 ++ word16 (l.enables.setWidth 16)

end Sys2Proof.Machine
end

