-- ==== Sys2Proof/Machine/Format.lean ====
section
/-! DEFINITION. The trunk formats (10.7): characters and bits of marks, slot frames and announcements, the CRC (R141),
the assembly of characters from the levels of the line (R127), and the judgement of received characters (R138 to R141). -/

namespace Sys2Proof.Machine

open Sys2Proof

/-! ### The CRC (R141) -/

/-- The data bits of a character, most significant first. -/
def dataBits (c : Byte) : List Bool := [7, 6, 5, 4, 3, 2, 1, 0].map c.getLsbD

/-- One covered bit: shift, and combine with 4129 if the bit shifted out differs from the data bit. -/
def crcBit (r : BitVec 16) (b : Bool) : BitVec 16 := if r.msb != b then (r <<< 1) ^^^ 4129 else r <<< 1

/-- The register after the covered characters, from all ones. -/
def crcOf (chars : List Byte) : BitVec 16 := (chars.flatMap dataBits).foldl crcBit 0xFFFF

/-- A frame's content followed by its two CRC characters, the upper eight bits first. -/
def withCrc (content : List Byte) : List Byte := content ++ word16 (crcOf content)

/-! ### Characters sent (R184, R185) -/

/-- R184: the mark character. -/
def markChar (sender : Nat) : Byte := topTwo 3 sender

/-- R184: the type bits of a slot frame, DATA 00 and KEEP 01. -/
def FrameBody.typeBits : FrameBody → BitVec 2
  | .data _ => 0
  | .keep => 1

/-- The payload of a slot frame; none in a KEEP frame. -/
def FrameBody.payload : FrameBody → List Byte
  | .data p => p
  | .keep => []

/-- R184: the content of a slot frame, before the CRC. -/
def frameContent (f : SlotFrame) : List Byte :=
  let payload := FrameBody.payload f.body
  let char0 : Byte := BitVec.ofNat 6 f.sender ++ FrameBody.typeBits f.body
  char0 :: byteOf f.stream :: f.seq :: byteOf payload.length :: payload

/-- R184: the characters of a slot frame. -/
def frameChars (f : SlotFrame) : List Byte := withCrc (frameContent f)

/-- R185: the kind bits of an announcement. -/
def kindBits : AnnouncementKind → BitVec 2
  | .object => 0
  | .release => 1
  | .claim => 2

/-- R185: the content of an announcement, before the CRC. -/
def announcementContent (a : Announcement) : List Byte :=
  topTwo (kindBits a.kind) a.sender :: byteOf a.stream :: (slotSetBytes a.slots ++ [byteOf a.aux])

/-- R185: the characters of an announcement. -/
def announcementChars (a : Announcement) : List Byte := withCrc (announcementContent a)

/-- The characters of an attempt; a break has none. -/
def Attempt.chars : Attempt → List Byte
  | .brk => []
  | .mark sender => [markChar sender]
  | .slotFrame _ f => frameChars f
  | .announcement _ a => announcementChars a

/-- 4.1: the ten bits of a character on the line, `true` for recessive. -/
def charBits (c : Byte) : List Bool := false :: (dataBits c ++ [true])

/-- The bits of an attempt as sent, `true` for recessive; a break is 14 dominant bits (R134). -/
def Attempt.bits : Attempt → List Bool
  | .brk => List.replicate 14 false
  | .mark sender => charBits (markChar sender)
  | .slotFrame _ f => (frameChars f).flatMap charBits
  | .announcement _ a => (announcementChars a).flatMap charBits

/-- The bits of the arbitration character (R132). -/
def arbitrationBits : Nat := 10

/-- The dominant bits that stand together at the end of a list of sent bits. -/
def trailingDominant (bits : List Bool) : Nat := (bits.reverse.takeWhile (!·)).length

/-! ### Fields checked (R140) -/

/-- R140: the values that a slot frame's fields may have. -/
def frameLegal (f : SlotFrame) : Bool := addressFits f.sender && bodyFits f.body

/-- R140: the slot set and aux that an announcement may have. -/
def setAndAuxLegal (a : Announcement) : Bool :=
  match a.kind with
  | .object => slotCount a.slots == 1 && a.aux ≤ 2
  | _ => 1 ≤ slotCount a.slots && slotCount a.slots ≤ 8 && a.aux == 0

/-- R140: the values that an announcement's fields may have. -/
def announcementLegal (a : Announcement) : Bool := addressFits a.sender && setAndAuxLegal a

/-! ### From levels to characters (R127, R129, R130) -/

/-- The byte of eight data bits, most significant first; `true` is recessive, logic 1. -/
def byteOfBits (bits : List Bool) : Byte := bits.foldl (fun b x => (b <<< 1) ||| (if x then 1 else 0)) 0

/-- R130: a run that is a FRAMING error when it ends short of a break. -/
def framingRun (run : Nat) (stopBit : Bool) : Bool := run == 10 || run == 11 || stopBit

/-- The character assembly of R127 after some bit times, with the dominant run that R129 and R130 follow beside it. -/
structure Receiver where
  /-- Bit times so far. -/
  time     : Nat
  /-- The level at the end of the last bit time. -/
  level    : Level
  /-- The data bits of the character in progress, or none outside a character. -/
  data     : Option (List Bool)
  /-- The bit time of char0's start bit. -/
  first    : Option Nat
  /-- The characters completed. -/
  chars    : List Byte
  /-- The dominant run. -/
  run      : Nat
  /-- The run contains a dominant stop bit. -/
  stopBit  : Bool
  /-- A run has ended as a FRAMING error. -/
  framing  : Bool
  deriving DecidableEq, Repr

/-- The assembly on a recessive line. -/
def Receiver.idle : Receiver :=
  { time := 0, level := .recessive, data := none, first := none, chars := [], run := 0, stopBit := false,
    framing := false }

/-- R129, R130: the dominant run at a bit time. -/
def Receiver.followRun (x : BitTime) (r : Receiver) : Receiver :=
  match x.middle with
  | .dominant => { r with run := r.run + 1 }
  | .recessive => { r with
      run := 0, stopBit := false, framing := r.framing || (r.run < 12 && framingRun r.run r.stopBit) }

/-- R127: the line changes from recessive to dominant in a bit time and reads dominant at its middle. -/
def Receiver.startBit (x : BitTime) (r : Receiver) : Bool :=
  x.middle == .dominant && (r.level == .recessive || x.begins == .recessive)

/-- R127: the character at a bit time: a start bit begins one, eight data bits follow, most significant first, and a
recessive stop bit completes it.  A dominant stop bit is left to the run that contains it (R130). -/
def Receiver.assemble (x : BitTime) (r : Receiver) : Receiver :=
  match r.data with
  | none =>
    if r.startBit x then { r with data := some [], first := some (r.first.getD r.time) } else r
  | some bits =>
    if bits.length < 8 then { r with data := some (bits ++ [x.middle == .recessive]) }
    else match x.middle with
      | .recessive => { r with data := none, chars := r.chars ++ [byteOfBits bits] }
      | .dominant => { r with data := none, stopBit := true }

/-- R127, R129: one bit time. -/
def Receiver.take (r : Receiver) (x : BitTime) : Receiver :=
  let r := Receiver.assemble x (Receiver.followRun x r)
  { r with time := r.time + 1, level := x.middle }

/-- R127: what the receive side makes of a stretch of the line. -/
def Stretch.received (x : Stretch) : Receiver := x.bits.foldl Receiver.take .idle

/-- R138: the frame that the receive side has begun in a stretch: where its char0 starts, and the characters completed. -/
def Stretch.reception (x : Stretch) : Option Reception :=
  (Stretch.received x).first.map fun time => { offset := x.offset + time, chars := (Stretch.received x).chars }

/-- The frame that a stretch shows, where there is one. -/
def begun (rx : Option Stretch) : Option Reception := rx.bind Stretch.reception

/-- The levels of bits as a transmitter sends them, `true` for recessive: the level holds for the whole bit time. -/
def bitTimes (bits : List Bool) : List BitTime :=
  bits.map fun b => if b then { begins := .recessive, middle := .recessive } else { begins := .dominant, middle := .dominant }

/-! ### Received characters (R138 to R141) -/

/-- The five kinds of receive error (R142). -/
inductive RxError where
  | framing | crc | format | truncated | misplaced
  deriving DecidableEq, Repr

/-- What the characters received so far in a segment amount to. -/
inductive Judgement where
  | incomplete
  | error (e : RxError)
  | mark (sender : Nat)
  | slotFrame (f : SlotFrame)
  | announcement (a : Announcement)
  deriving DecidableEq, Repr

/-- R140: the mark character. -/
def judgeMark (c0 : Byte) : Judgement :=
  let sender := (c0.extractLsb' 0 6).toNat
  if c0.extractLsb' 6 2 = 3 ∧ addressFits sender then .mark sender else .error .format

/-- R141: the CRC of the content against the two characters that follow it. -/
def crcAgrees (content crc : List Byte) : Bool := crc == word16 (crcOf content)

/-- R138, R140, R141: the characters of a slot frame from char3 on, for a legal char0 and char1. -/
def judgeBody (sender : Nat) (stream : StreamNo) (keep : Bool) (c0 c1 c2 c3 : Byte) (rest : List Byte) : Judgement :=
  let size := c3.toNat
  if size > (if keep then 0 else 32) then .error .format
  else if rest.length < size + 2 then .incomplete
  else
    let payload := rest.take size
    if crcAgrees (c0 :: c1 :: c2 :: c3 :: payload) ((rest.drop size).take 2) then
      .slotFrame { sender, stream, seq := c2, body := if keep then .keep else .data payload }
    else .error .crc

/-- R140: a slot frame, field after field as the characters arrive. -/
def judgeSlotFrame : List Byte → Judgement
  | [] => .incomplete
  | c0 :: cs =>
    let sender := (c0.extractLsb' 2 6).toNat
    let type := c0.extractLsb' 0 2
    if !addressFits sender || (type != 0 && type != 1) then .error .format
    else match cs with
      | [] => .incomplete
      | c1 :: cs =>
        match streamArg c1 with
        | none => .error .format
        | some stream =>
          match cs with
          | c2 :: c3 :: rest => judgeBody sender stream (type == 1) c0 c1 c2 c3 rest
          | _ => .incomplete

/-- R185: the kind of an announcement; binary 11 is none. -/
def kindOf (b : BitVec 2) : Option AnnouncementKind :=
  if b = 0 then some .object else if b = 1 then some .release else if b = 2 then some .claim else none

/-- R140, R141: an announcement, field after field as the characters arrive; the set and the aux after the CRC. -/
def judgeAnnouncement : List Byte → Judgement
  | [] => .incomplete
  | c0 :: cs =>
    let sender := (c0.extractLsb' 0 6).toNat
    match kindOf (c0.extractLsb' 6 2) with
    | none => .error .format
    | some kind =>
      if !addressFits sender then .error .format
      else match cs with
        | [] => .incomplete
        | c1 :: cs =>
          match streamArg c1 with
          | none => .error .format
          | some stream =>
            match cs with
            | a :: b :: c :: d :: x :: h :: l :: _ =>
              if crcAgrees [c0, c1, a, b, c, d, x] [h, l] then
                let content : Announcement := { kind, sender, stream, slots := slotSetOf a b c d, aux := x.toNat }
                if setAndAuxLegal content then .announcement content else .error .format
              else .error .crc
            | _ => .incomplete

/-- R138: a frame that starts this many bit times or more after its segment is MISPLACED. -/
def placementLimit : Nat := characterTimes 2

/-- R138, R140, R141: the characters received in a segment, placed at char0 and then checked. -/
def judgeReception (segment : Segment) (r : Reception) : Judgement :=
  match r.chars with
  | [] => .incomplete
  | c0 :: _ =>
    match segment with
    | .outside => .incomplete
    | .gap => .error .misplaced
    | .markTail => if r.offset < placementLimit then judgeMark c0 else .error .misplaced
    | .slot _ => if r.offset < placementLimit then judgeSlotFrame r.chars else .error .misplaced
    | .window _ => if r.offset < placementLimit then judgeAnnouncement r.chars else .error .misplaced

end Sys2Proof.Machine
end

