-- ==== Sys2Proof/Machine/SlotMap.lean ====
section
/-! DEFINITION. The slot map (02_the_slot_map.md): what the other blocks read from it, boundary processing, learning from
frames, the effect of announcements, and detached entries.  The reports to other blocks are read off the map before and
after an event. -/

namespace Sys2Proof.Machine

open Sys2Proof

/-- Every entry replaced by a function of its slot number and itself. -/
def SlotMap.update (m : SlotMap) (f : Slot → Entry → Entry) : SlotMap := Vector.ofFn fun k => f k m[k]

/-- The entries' states replaced, the heard and reached marks kept (R20). -/
def SlotMap.updateStates (m : SlotMap) (f : Slot → EntryState → EntryState) : SlotMap :=
  SlotMap.update m fun k e => { e with state := f k e.state }

/-- R22: every entry FREE, with both marks no. -/
def SlotMap.cleared : SlotMap := Vector.replicate 32 .reset

/-! ### Reading the map (2.9) -/

/-- The publisher that an entry belongs to. -/
def EntryState.publisher : EntryState → Option (Nat × StreamNo)
  | .pending o n _ _ => some (o, n)
  | .held o n _ _ => some (o, n)
  | _ => none

/-- The stream of an own PENDING or HELD entry that is not detached. -/
def EntryState.ownStream (own : Nat) : EntryState → Option StreamNo
  | .pending o n _ d => if o = own ∧ d = false then some n else none
  | .held o n _ d => if o = own ∧ d = false then some n else none
  | _ => none

/-- R45: the stream of an own HELD entry that is not detached. -/
def EntryState.ownHeld (own : Nat) : EntryState → Option StreamNo
  | .held o n _ d => if o = own ∧ d = false then some n else none
  | _ => none

/-- The stream of an own PENDING entry that is not detached. -/
def EntryState.ownPending (own : Nat) : EntryState → Option StreamNo
  | .pending o n _ d => if o = own ∧ d = false then some n else none
  | _ => none

/-- The entry is FREE. -/
def EntryState.isFree : EntryState → Bool
  | .free => true
  | _ => false

/-- R46: the FREE entries, ascending. -/
def SlotMap.freeSlots (m : SlotMap) : List Slot := allSlots.filter fun k => m[k].state.isFree

/-- R54: the slots of a set that are own, not detached and of the stream. -/
def SlotMap.trim (m : SlotMap) (own : Nat) (n : StreamNo) (s : SlotSet) : SlotSet :=
  SlotSet.ofPred fun k => SlotSet.has s k && m[k].state.ownStream own == some n

/-! ### Loss reports (R28, R30, R39, R86) -/

/-- The reasons of a loss report at a delivery; the fourth reason of R86, LAPSED, is that of `SlotMap.lapsedSlots`. -/
inductive LossReason where
  | lost | taken | objected
  deriving DecidableEq, Repr

/-- A loss report to the stream contexts: the slot, the stream that had it, and the reason. -/
structure LossReport where
  slot   : Slot
  stream : StreamNo
  reason : LossReason
  deriving DecidableEq, Repr

/-- R30: the reason of the loss of an own entry to a heard frame, with the lost note of the delivery. -/
def EntryState.frameReason (lostNote : Bool) : EntryState → LossReason
  | .held _ _ _ _ => if lostNote then .lost else .taken
  | _ => .taken

/-- R30, R39: the report of the loss of slot k, for an own entry that was not detached. -/
def EntryState.lossReport (own : Nat) (k : Slot) (reason : LossReason) (e : EntryState) : Option LossReport :=
  (e.ownStream own).map fun n => { slot := k, stream := n, reason }

/-! ### Boundaries (2.4) -/

/-- R25, R26, R27: the one transition that an entry makes at a boundary. -/
def Entry.age (leaseLimit : Nat) (e : Entry) : EntryState :=
  match e.state with
  | .free => .free
  | .pending o n c d => if c - 1 = 0 then .held o n 0 d else .pending o n (c - 1) d
  | .held o n silent d =>
    if e.heard then .held o n 0 d
    else if e.reached then
      if silent + 1 = leaseLimit then .quarantine 2 else .held o n (silent + 1) d
    else .held o n silent d
  | .quarantine c => if c - 1 = 0 then .free else .quarantine (c - 1)

/-- R25 to R27: a boundary in the slot map. -/
def SlotMap.boundary (m : SlotMap) (leaseLimit : Nat) : SlotMap :=
  SlotMap.update m fun _ e => { state := Entry.age leaseLimit e, heard := false, reached := false }

/-- R25: the entry lapses at a boundary taken now. -/
def Entry.lapses (leaseLimit : Nat) (e : Entry) : Bool :=
  match e.state with
  | .held _ _ silent _ => !e.heard && e.reached && silent + 1 == leaseLimit
  | _ => false

/-- R26: the entry is confirmed at a boundary taken now. -/
def Entry.confirms (e : Entry) : Bool :=
  match e.state with
  | .pending _ _ c _ => c - 1 == 0
  | _ => false

/-- R27: the quarantine of the entry ends at a boundary taken now. -/
def Entry.quarantineEnds (e : Entry) : Bool :=
  match e.state with
  | .quarantine c => c - 1 == 0
  | _ => false

/-- R28: the slots reported LAPSED to a stream at a boundary taken now. -/
def SlotMap.lapsedSlots (m : SlotMap) (own leaseLimit : Nat) (n : StreamNo) : SlotSet :=
  SlotSet.ofPred fun k => m[k].lapses leaseLimit && m[k].state.ownHeld own == some n

/-- R28: the slots reported CONFIRMED to a stream at a boundary taken now. -/
def SlotMap.confirmedSlots (m : SlotMap) (own : Nat) (n : StreamNo) : SlotSet :=
  SlotSet.ofPred fun k => m[k].confirms && m[k].state.ownPending own == some n

/-! ### Frames (2.5) -/

/-- R23: the start of slot k. -/
def SlotMap.reach (m : SlotMap) (k : Slot) : SlotMap := m.set k { m[k] with reached := true }

/-- R29: a frame from another station. -/
def SlotMap.learn (m : SlotMap) (k : Slot) (sender : Nat) (n : StreamNo) : SlotMap :=
  m.set k { m[k] with state := .held sender n 0 false, heard := true }

/-- R31: the state of an entry after the station's own frame: HELD with silent count 0. -/
def EntryState.heardOwn : EntryState → EntryState
  | .held o n _ d => .held o n 0 d
  | e => e

/-- R31: the station's own frame. -/
def SlotMap.hearOwn (m : SlotMap) (k : Slot) : SlotMap :=
  m.set k { m[k] with state := m[k].state.heardOwn, heard := true }

/-! ### Announcements (2.6) -/

/-- R34, R36: the FREE slots of a set. -/
def SlotMap.claimable (m : SlotMap) (s : SlotSet) : SlotSet :=
  SlotSet.ofPred fun k => SlotSet.has s k && m[k].state.isFree

/-- R34, R36: the FREE slots of a claim become PENDING with confirm count 2. -/
def SlotMap.claim (m : SlotMap) (sender : Nat) (n : StreamNo) (s : SlotSet) : SlotMap :=
  SlotMap.updateStates m fun k e => if SlotSet.has s k && e.isFree then .pending sender n 2 false else e

/-- R35: the slots of a set that are own, PENDING or HELD, and not detached. -/
def SlotMap.ownSlotsOf (m : SlotMap) (own : Nat) (s : SlotSet) : SlotSet :=
  SlotSet.ofPred fun k => SlotSet.has s k && (m[k].state.ownStream own).isSome

/-- R37, R38: an entry after a RELEASE of its slot by a station. -/
def EntryState.released (sender : Nat) (e : EntryState) : EntryState :=
  match e.publisher with
  | some (o, _) => if o = sender then .quarantine 2 else e
  | none => e

/-- R37, R38: a RELEASE. -/
def SlotMap.release (m : SlotMap) (sender : Nat) (s : SlotSet) : SlotMap :=
  SlotMap.updateStates m fun k e => if SlotSet.has s k then e.released sender else e

/-- R39: the state that an OBJECT carries. -/
def objectedState (sender : Nat) (n : StreamNo) (aux : Nat) : EntryState :=
  if aux = 0 then .held sender n 0 false else .pending sender n aux false

/-- R39: an OBJECT from another station. -/
def SlotMap.object (m : SlotMap) (k : Slot) (sender : Nat) (n : StreamNo) (aux : Nat) : SlotMap :=
  m.set k { m[k] with state := objectedState sender n aux }

/-! ### Publisher gone (2.7) and detached entries (2.8) -/

/-- R41: an event that took the map from `before` to `after` has taken an entry from the publisher and left it none. -/
def publisherGone (before after : SlotMap) (p : Nat × StreamNo) : Bool :=
  (allSlots.any fun k => before[k].state.publisher == some p && after[k].state.publisher != some p)
    && allSlots.all fun k => after[k].state.publisher != some p

/-- R42: an own entry of one of the streams becomes detached. -/
def EntryState.detach (own : Nat) (p : StreamNo → Bool) : EntryState → EntryState
  | .pending o n c d => .pending o n c (d || (o == own && p n))
  | .held o n c d => .held o n c (d || (o == own && p n))
  | e => e

/-- R42: the own entries of the streams that satisfy a condition become detached. -/
def SlotMap.detach (m : SlotMap) (own : Nat) (p : StreamNo → Bool) : SlotMap :=
  SlotMap.updateStates m fun _ e => e.detach own p

/-! ### READ_MAP (R47, R188) -/

/-- R188: the second byte of an entry, the stream in bits 6 to 4 and the count in bits 3 to 0. -/
def streamAndCount (n : StreamNo) (count : Nat) : Byte := (0 : BitVec 1) ++ BitVec.ofNat 3 n ++ BitVec.ofNat 4 count

/-- R47, R188: the two bytes of an entry. -/
def EntryState.record : EntryState → List Byte
  | .free => [topTwo 0 0, streamAndCount 0 0]
  | .pending o n c _ => [topTwo 1 o, streamAndCount n c]
  | .held o n c _ => [topTwo 2 o, streamAndCount n c]
  | .quarantine c => [topTwo 3 0, streamAndCount 0 c]

/-- R188: the 64 bytes of READ_MAP. -/
def SlotMap.record (m : SlotMap) : List Byte := allSlots.flatMap fun k => m[k].state.record

end Sys2Proof.Machine
end

