-- ==== Sys2Proof/Machine/Ops.lean ====
section
/-! DEFINITION. The named operations over the state that more than one command uses: streams, pool and taps, the map with
its reports, the line unit's segments and attempts, the cycle timer, and the changes of station state. -/

namespace Sys2Proof.Machine

open Sys2Proof

/-- The own address (4.5). -/
def State.own (s : State) : Nat := s.setup.address

/-- The station may drive the trunk (R128). -/
def State.mayDrive (s : State) : Bool := s.station.state == .active || s.station.state == .leaving

/-! ### Streams -/

/-- One stream replaced. -/
def State.modifyStream (n : StreamNo) (f : Stream → Stream) (s : State) : State :=
  { s with streams := s.streams.set n (f s.streams[n]) }

/-- Every stream replaced by a function of its number and itself. -/
def State.updateStreams (f : StreamNo → Stream → Stream) (s : State) : State :=
  { s with streams := Vector.ofFn fun n => f n s.streams[n] }

/-- The slots that a stream holds or has pending. -/
def Stream.slots (st : Stream) : SlotSet := st.held ||| st.pending

/-- R77: the state derived from the held list and the wanted count. -/
def Stream.derive (st : Stream) : Stream :=
  match st.state with
  | .closed => st
  | .releasing => st
  | _ =>
    if st.held = 0 then { st with state := .claiming }
    else if st.wanted ≤ SlotSet.card st.held then { st with state := .opened }
    else { st with state := .degraded }

/-- R86: the stream loses the slots of a set, each counted in slots lost. -/
def Stream.lose (k : SlotSet) (st : Stream) : Stream :=
  Stream.derive { st with
    held := st.held &&& ~~~k, pending := st.pending &&& ~~~k, lost := Counter.raise st.lost (SlotSet.card k) }

/-- R85: the slots of a set move from the pending list to the held list. -/
def Stream.confirm (k : SlotSet) (st : Stream) : Stream :=
  Stream.derive { st with held := st.held ||| k, pending := st.pending &&& ~~~k }

/-- R87: the stream becomes CLOSED with empty lists; its other fields keep their values. -/
def Stream.close (st : Stream) : Stream := { st with state := .closed, held := 0, pending := 0 }

/-- R80, R83: an in-flight frame is marked discard-on-return. -/
def Stream.discardInFlight (st : Stream) : Stream :=
  { st with inFlight := st.inFlight.map fun f => { f with discard := true } }

/-- The streams are neither CLOSED nor RELEASING. -/
def Stream.isOpen (st : Stream) : Bool := st.state != .closed && st.state != .releasing

/-- The sum of a count over all eight streams. -/
def State.sumStreams (f : Stream → Nat) (s : State) : Nat := ((List.finRange 8).map fun n => f s.streams[n]).sum

/-- The sum of a count over all twelve taps. -/
def State.sumTaps (f : Tap → Nat) (s : State) : Nat := ((List.finRange 12).map fun t => f s.taps[t]).sum

/-- R55: the station's total of held and pending slots. -/
def State.ownTotal (s : State) : Nat :=
  s.sumStreams fun st => SlotSet.card st.held + SlotSet.card st.pending

/-- R98: what of a stream a change of which latches CHANGE. -/
def Stream.visible (st : Stream) : StreamState × Nat × Nat :=
  (st.state, SlotSet.card st.held, SlotSet.card st.pending)

/-- R98: after an event, CHANGE for each stream whose state or either list length has changed. -/
def State.noteChanges (before after : State) : State :=
  State.causes (streamFlags .change fun n => before.streams[n].visible != after.streams[n].visible) after

/-- R98: an event, with the CHANGE causes that it brings. -/
def State.changing (f : State → State) (s : State) : State := State.noteChanges s (f s)

/-! ### The buffer pool (06_frame_buffers.md) -/

/-- R124: buffers return to the free count. -/
def State.returnBuffers (n : Nat) (s : State) : State := { s with freeBuffers := s.freeBuffers + n }

/-- R121, R122: one granted buffer leaves the free count. -/
def State.takeBuffer (s : State) : State := { s with freeBuffers := s.freeBuffers - 1 }

/-- R80, R83, R90: the send queue is discarded and its buffers return to the pool. -/
def State.discardQueue (n : StreamNo) (s : State) : State :=
  State.modifyStream n (fun st => { st with queue := [] }) (State.returnBuffers s.streams[n].queue.length s)

/-! ### The announcement unit's queue (R50) -/

/-- The record of a stream's RELEASE. -/
def Record.isReleaseOf (n : StreamNo) : Record → Bool
  | .release m _ => m == n
  | .object _ => false

/-- The OBJECT record of a slot. -/
def Record.isObjectOf (k : Slot) : Record → Bool
  | .object j => j == k
  | .release _ _ => false

/-- The queue replaced. -/
def State.setQueue (q : List Record) (s : State) : State := { s with ann := { s.ann with queue := q } }

/-- The in-flight offer replaced. -/
def State.setOffer (o : Option Announcement) (s : State) : State := { s with ann := { s.ann with offer := o } }

/-- A stream's RELEASE record removed. -/
def State.dropRelease (n : StreamNo) (s : State) : State :=
  State.setQueue (s.ann.queue.filter fun r => !r.isReleaseOf n) s

/-- R65, R80: a claim of the stream is in flight. -/
def State.claimInFlight (n : StreamNo) (s : State) : Bool :=
  match s.ann.offer with
  | some a => a.kind == .claim && a.stream == n
  | none => false

/-! ### Taps -/

/-- One tap replaced. -/
def State.modifyTap (t : TapNo) (f : Tap → Tap) (s : State) : State := { s with taps := s.taps.set t (f s.taps[t]) }

/-- Every tap replaced by a function of its number and itself. -/
def State.updateTaps (f : TapNo → Tap → Tap) (s : State) : State :=
  { s with taps := Vector.ofFn fun t => f t s.taps[t] }

/-- The tap is not OFF and follows the publisher. -/
def Tap.follows (p : Nat × StreamNo) (t : Tap) : Bool :=
  t.state != .off && t.source == p.1 && t.sourceStream == p.2

/-- R102, R108: the tap that takes a publisher's frames. -/
def State.tapFor (p : Nat × StreamNo) (s : State) : Option TapNo := (List.finRange 12).find? fun t => s.taps[t].follows p

/-- R114: the tap becomes STALE at the report for a publisher. -/
def Tap.goesStale (before after : SlotMap) (t : Tap) : Bool :=
  t.state == .live && publisherGone before after (t.source, t.sourceStream)

/-- R41, R114: the taps after an event that took the map from `before` to `after`. -/
def State.reportGone (before after : SlotMap) (s : State) : State :=
  State.causes (tapFlags .stale fun t => s.taps[t].goesStale before after)
    (State.updateTaps (fun _ t => if t.goesStale before after then { t with state := .stale } else t) s)

/-- An event in the map, with its "publisher gone" reports (R41). -/
def State.changeMap (f : SlotMap → SlotMap) (s : State) : State :=
  State.reportGone s.map (f s.map) { s with map := f s.map }

/-- R86: a loss report reaches its stream.  The four reasons have the same effect there. -/
def State.reportLoss (r : Option LossReport) (s : State) : State :=
  match r with
  | some r => State.modifyStream r.stream (Stream.lose (SlotSet.only r.slot)) s
  | none => s

/-- R109, R113: a tap accounts for a sequence number: it is LIVE and expects `next`, and a LIVE tap counts the gap. -/
def Tap.account (seq next : Byte) (t : Tap) : Tap :=
  match t.state with
  | .live => { t with gaps := Counter.raise t.gaps (seq - t.expected).toNat, expected := next }
  | _ => { t with state := .live, expected := next }

/-- R109, R113: the number shows a gap. -/
def Tap.showsGap (seq : Byte) (t : Tap) : Bool := t.state == .live && seq != t.expected

/-- R109, R113: the accounting in the state, with LOSS for a gap. -/
def State.tapAccount (t : TapNo) (seq next : Byte) (s : State) : State :=
  let s' := State.modifyTap t (Tap.account seq next) s
  if s.taps[t].showsGap seq then State.latches (.loss t) s' else s'

/-- R110 to R112: a DATA frame is queued, replaces the oldest frame, or is dropped. -/
def State.tapQueue (t : TapNo) (frame : RxFrame) (s : State) : State :=
  let tap := s.taps[t]
  if tap.queue.length < 8 then
    if s.freeBuffers = 0 then
      State.latches (.loss t)
        (State.modifyTap t (fun tap => { tap with noBufferDrops := Counter.raise tap.noBufferDrops 1 }) s)
    else
      let s' := State.takeBuffer (State.modifyTap t (fun tap => { tap with queue := tap.queue ++ [frame] }) s)
      if tap.queue.isEmpty then State.latches (.data t) s' else s'
  else
    let dropped (tap : Tap) : Tap := { tap with fullDrops := Counter.raise tap.fullDrops 1 }
    let replaced (tap : Tap) : Tap := { dropped tap with queue := tap.queue.tail ++ [frame], pullMark := false }
    State.latches (.loss t)
      (State.modifyTap t (match tap.policy with | .keepOldest => dropped | .keepNewest => replaced) s)

/-- R108: a delivered slot frame reaches the tap that follows its publisher. -/
def State.tapTake (f : SlotFrame) (s : State) : State :=
  match s.tapFor (f.sender, f.stream) with
  | none => s
  | some t =>
    match f.body with
    | .data payload => State.tapQueue t { seq := f.seq, payload } (State.tapAccount t f.seq (f.seq + 1) s)
    | .keep => State.tapAccount t f.seq f.seq s

/-! ### The line unit's receive side (7.5) -/

/-- R7, R142: an error in the mark tail makes the mark source 0. -/
def State.markTailError (s : State) : State :=
  if s.line.segment = .markTail then { s with timer := { s.timer with markSource := 0, markSettled := true } } else s

/-- R142: errors are counted in the current segment. -/
def State.countsErrors (s : State) : Bool :=
  s.line.receiver && s.line.segment != .outside && s.line.condition != .discarding

/-- R142: a receive error in the current segment, of any kind: counted once for a segment, and none outside one. -/
def State.rxError (s : State) : State :=
  if s.countsErrors then
    let s := State.markTailError s
    State.latches .rxError { s with line := { s.line with
      rxErrors := Counter.raise s.line.rxErrors 1, condition := .discarding, assembly := none } }
  else s

/-- R138: a character begins in the current segment. -/
def State.beginCharacter (r : Reception) (s : State) : State :=
  if s.line.receiver && s.line.segment != .outside then
    match s.line.condition with
    | .opened => { s with line := { s.line with condition := .receiving, assembly := some r } }
    | .ended => State.rxError s
    | _ => s
  else s

/-- What the receive side has assembled by an event, where the event tells it. -/
def State.noteReception (rx : Option Stretch) (s : State) : State :=
  match begun rx with
  | none => s
  | some r =>
    let s := State.beginCharacter r s
    if s.line.condition = .receiving then { s with line := { s.line with assembly := some r } } else s

/-- R127: the character that the receive side has begun is none: its start bit was read back recessive. -/
def State.noCharacter (s : State) : State :=
  if s.line.condition = .receiving then
    { s with line := { s.line with condition := .opened, assembly := none } }
  else s

/-- R139: the end of the current segment; a frame that is RECEIVING is a TRUNCATED error. -/
def State.closeSegment (rx : Option Stretch) (s : State) : State :=
  let s := State.noteReception rx s
  if s.line.condition = .receiving then State.rxError s else s

/-- R137: a segment starts. -/
def State.openSegment (segment : Segment) (s : State) : State :=
  { s with line := { s.line with segment := segment, condition := .opened, assembly := none } }

/-- R129: the dominant run as an event shows it. -/
def State.atRun (run : Nat) (s : State) : State := { s with line := { s.line with dominantRun := run } }

/-- R129: the dominant run at the end of what RXD has carried, where the event tells it. -/
def State.noteRun (rx : Option Stretch) (s : State) : State :=
  State.atRun ((rx.map fun x => (Stretch.received x).run).getD s.line.dominantRun) s

/-- R129, R138: the frame of the segment has ended whole, with a recessive stop bit. -/
def State.endFrame (s : State) : State :=
  { s with line := { s.line with
      dominantRun := 0
      condition := if s.line.condition = .discarding then .discarding else .ended, assembly := none } }

/-! ### The line unit's attempts (7.3) -/

/-- 7.3: the bit times from the start of its segment to an attempt's first bit. -/
def Attempt.firstBit : Attempt → Nat
  | .brk => 0
  | .mark _ => 2
  | .slotFrame _ _ => characterTimes 1
  | .announcement _ _ => characterTimes 1

/-- 7.3: the position of an attempt's first bit, where the cycle gives it. -/
def Attempt.firstPosition : Attempt → Nat
  | .brk => 0
  | .mark sender => (Attempt.mark sender).firstBit
  | .slotFrame k f => slotStartAt k + (Attempt.slotFrame k f).firstBit
  | .announcement w c => windowStartAt w + (Attempt.announcement w c).firstBit

/-- The transmit state and the level of TXD replaced. -/
def State.setTransmit (t : Transmit) (txd : Level) (s : State) : State :=
  { s with line := { s.line with transmit := t, txd := txd } }

/-- R131: an attempt is handed over and waits for its first bit time. -/
def State.handOver (a : Attempt) (s : State) : State := State.setTransmit (.waiting a) .recessive s

/-- R128, R131: no attempt is current and TXD is released. -/
def State.endAttempt (s : State) : State := State.setTransmit .idle .recessive s

/-- R9, R16, R131: a break is handed over and starts at once, with mark owed; the line unit takes one attempt at a
time. -/
def State.handBreak (s : State) : State :=
  if s.line.transmit = .idle then
    State.setTransmit (.driving .brk) .dominant
      { s with timer := { s.timer with markOwed := true, breakStart := s.timer.position } }
  else s

/-- R95: a DATA frame ends LOST, FAULT or CUT. -/
def State.requeue (n : StreamNo) (s : State) : State :=
  match s.streams[n].inFlight with
  | none => s
  | some f =>
    if f.discard then State.returnBuffers 1 (State.modifyStream n (fun st => { st with inFlight := none }) s)
    else State.modifyStream n (fun st =>
      { st with inFlight := none, queue := f.payload :: st.queue, requeued := Counter.raise st.requeued 1 }) s

/-- R93, R95: a slot frame ends LOST, FAULT or CUT; a KEEP frame changes nothing. -/
def State.frameReturns (f : SlotFrame) (s : State) : State :=
  match f.body with
  | .data _ => State.requeue f.stream s
  | .keep => s

/-- R62: one lost claim: the attempt counter falls, and at 0 the stream enters backoff. -/
def Stream.loseClaim (own : Nat) (st : Stream) : Stream :=
  if st.state = .claiming ∨ st.state = .degraded then
    if st.attempts - 1 = 0 then { st with attempts := 0, backoff := 1 + own % 4 }
    else { st with attempts := st.attempts - 1 }
  else st

/-- R62, R133, R136: an attempt ends LOST. -/
def State.attemptLost (a : Attempt) (s : State) : State :=
  let s := State.endAttempt s
  match a with
  | .slotFrame _ f => State.frameReturns f { s with line := { s.line with lostNote := true } }
  | .announcement _ c =>
    let s := State.setOffer none s
    match c.kind with
    | .claim => State.modifyStream c.stream (Stream.loseClaim s.own) s
    | _ => s
  | _ => s

/-- R153: the fault mark of the cycle, set while the station is ACTIVE or LEAVING. -/
def State.markFault (s : State) : State :=
  if s.mayDrive then { s with station := { s.station with faultMark := true } } else s

/-- R63, R95: what an attempt's FAULT or CUT does in the block that handed it over; the record of an announcement stays. -/
def State.attemptReturns (a : Attempt) (s : State) : State :=
  let s := State.endAttempt s
  match a with
  | .slotFrame _ f => State.frameReturns f s
  | .announcement _ _ => State.setOffer none s
  | _ => s

/-- R132, R153: an attempt ends FAULT. -/
def State.attemptFault (a : Attempt) (s : State) : State := State.markFault (State.attemptReturns a s)

/-- R133: a SETTLING attempt ends with its provisional outcome. -/
def State.settle (s : State) : State :=
  match s.line.transmit with
  | .settling a .lost => State.attemptLost a s
  | .settling a .fault => State.attemptFault a s
  | _ => s

/-- R6, R131, R133: a break cuts the current attempt, but not the station's own break (R134). -/
def State.cut (s : State) : State :=
  match s.line.transmit with
  | .idle => s
  | .driving .brk => s
  | .waiting a | .driving a | .settling a _ => State.attemptReturns a s

/-! ### The cycle timer -/

/-- R2: the cycle timer reports a segment start at a position. -/
def State.reportsStart (position : Nat) (s : State) : Bool :=
  s.timer.running && !s.timer.breakInProgress &&
    match s.timer.position with
    | some p => p < position
    | none => false

/-- The position as an event shows it. -/
def State.atPosition (position : Nat) (s : State) : State :=
  { s with timer := { s.timer with position := s.timer.position.map (max position) } }

/-- R7: the mark source is settled as 0 where no mark character has been reported. -/
def State.settleMark (s : State) : State :=
  if s.timer.markSettled then s else { s with timer := { s.timer with markSource := 0, markSettled := true } }

/-- R7: a valid mark character in the mark tail of a cycle that a break opened. -/
def State.takeMark (sender : Nat) (s : State) : State :=
  if s.timer.markSettled then s else { s with timer := { s.timer with markSource := sender, markSettled := true } }

/-- The position of an event that comes `elapsed` bit times after a moment whose position was kept. -/
def State.countFrom (start : Option Nat) (elapsed : Nat) (s : State) : State :=
  { s with timer := { s.timer with
      position := match start with
        | some start => s.timer.position.map (max (start + elapsed))
        | none => s.timer.position } }

/-- R11, R12: the mark timer is armed again, 4 + own address character times after this moment. -/
def State.rearm (s : State) : State :=
  match s.timer.position with
  | some p => { s with timer := { s.timer with markTimer := .armed (p + characterTimes (markRetry s.own)) } }
  | none => { s with timer := { s.timer with markTimer := .armedCount (markRetry s.own) } }

/-- R11, R12: a FAULT on the station's own break at one of its bits.  The line is recessive there, so a run on which the
mark timer waits has ended with it, and the timer is armed once, from this moment. -/
def State.breakFault (bit : Nat) (s : State) : State :=
  let s := { s with timer := { s.timer with markOwed := false } }
  if s.timer.breakInProgress then s
  else State.rearm (State.countFrom s.timer.breakStart bit
    { s with timer := { s.timer with awaitingRun := false, runStart := none } })

/-- R1: the cycle timer stops; the cycle counter and the mark source keep their values. -/
def Timer.stopped (t : Timer) : Timer :=
  { t with running := false, position := none, breakInProgress := false, markTimer := .disarmed, awaitingRun := false,
           runStart := none, markOwed := false, breakStart := none, markSettled := true, loneStart := 0, lineDominant := false }

/-- R1: the cycle timer starts. -/
def Timer.started : Timer := { Timer.reset with running := true }

/-! ### Changes of station state -/

/-- R128: the line unit at entry to OFFLINE. -/
def Line.off (l : Line) : Line :=
  { l with receiver := false, dominantRun := 0, segment := .outside, condition := .opened, assembly := none,
           transmit := .idle, txd := .recessive }

/-- R128: the line unit at START. -/
def Line.on (l : Line) : Line :=
  { l with receiver := true, dominantRun := 0, segment := .outside, condition := .opened, assembly := none }

/-- The buffers that a stream holds: its queue and its in-flight frame (R119). -/
def Stream.buffers (st : Stream) : Nat := st.queue.length + (if st.inFlight.isSome then 1 else 0)

/-- R90: a stream at entry to OFFLINE.  R90 says that no frame is in flight then; the buffer of one would return with the
attempt that R128 abandons. -/
def Stream.offline (st : Stream) : Stream :=
  if st.state = .closed then { st with queue := [], inFlight := none, held := 0, pending := 0 }
  else { Stream.close st with queue := [], inFlight := none }

/-- R115: a tap at entry to OFFLINE. -/
def Tap.offline (t : Tap) : Tap := if t.state = .off then t else { t with state := .waiting }

/-- R160: entry to OFFLINE. -/
def State.enterOffline (s : State) : State :=
  { s with
    station := { s.station with state := .offline, muteRemaining := 0, faultMark := false, listenCount := 0 }
    timer := s.timer.stopped
    line := s.line.off
    map := SlotMap.cleared
    ann := .reset
    streams := Vector.ofFn fun n => s.streams[n].offline
    taps := Vector.ofFn fun t => s.taps[t].offline
    freeBuffers := s.freeBuffers + s.sumStreams Stream.buffers }

/-- R158: a leave ends in OFFLINE, with LEFT. -/
def State.leaveEnds (s : State) : State := State.latches .left (State.enterOffline s)

/-- Every stream is CLOSED. -/
def State.allClosed (s : State) : Bool := (List.finRange 8).all fun n => s.streams[n].state == .closed

/-- R158: the leave is complete at the event at which the last stream becomes CLOSED. -/
def State.leaveIfDone (s : State) : State :=
  if s.station.state = .leaving ∧ s.allClosed then State.leaveEnds s else s

/-- R42: the own entries of the streams that satisfy a condition are detached; no report is made. -/
def State.detach (p : StreamNo → Bool) (s : State) : State := { s with map := s.map.detach s.own p }

/-- R69, R88: silent release of a stream. -/
def State.silentRelease (n : StreamNo) (s : State) : State :=
  State.modifyStream n Stream.close (State.detach (· == n) (State.dropRelease n s))

/-- R72: silent release of every RELEASING stream. -/
def State.silentReleaseAll (s : State) : State :=
  (List.finRange 8).foldl
    (fun s n => if s.streams[n].state = .releasing then State.silentRelease n s else s) s

/-- R89: a stream at entry to MUTED. -/
def Stream.muted (st : Stream) : Stream :=
  match st.state with
  | .closed => Stream.close st
  | .releasing => Stream.close st
  | _ => { st with state := .claiming, held := 0, pending := 0 }

/-- R156: the mute boundaries at entry to MUTED. -/
def mutePeriod : Nat := 32

/-- R155: entry to MUTED. -/
def State.enterMuted (s : State) : State :=
  let s := State.endAttempt (State.detach (fun _ => true) s)
  let s := { s with
    station := { s.station with state := .muted, muteRemaining := mutePeriod, faultMark := false }
    timer := { s.timer with markOwed := false }
    ann := .reset }
  State.latches .muted (State.updateStreams (fun _ st => st.muted) s)

/-- R154: the window with all 16 places clean. -/
def cleanWindow : List Bool := List.replicate 16 false

/-- R156: entry to LISTENING from MUTED. -/
def State.rejoin (s : State) : State :=
  { s with
    station := { s.station with
      state := .listening, window := cleanWindow, faultMark := false, listenCount := 0, startedTrunk := false }
    timer := { s.timer with loneStart := 0 } }

/-- R151: entry to ACTIVE by listening. -/
def State.join (s : State) : State :=
  State.latches .joined { s with station := { s.station with state := .active } }

/-- R16, R152: the lone-start report: ACTIVE with started-trunk, JOINED, and a break with mark owed. -/
def State.loneStartReport (s : State) : State :=
  State.handBreak (State.latches .joined { s with
    station := { s.station with state := .active, startedTrunk := true }
    timer := { s.timer with loneStart := 0 } })

/-- R44, R159: CLASH. -/
def State.clash (s : State) : State :=
  let s := State.detach (fun _ => true) s
  let s := State.updateStreams (fun _ st => { st with held := 0, pending := 0 }) s
  State.latches .clash (State.enterOffline s)

/-! ### Closing a stream -/

/-- R68, R80: a stream is closed by CLOSE_STREAM or at STOP: the queue is discarded, an in-flight frame is marked, and
the stream becomes RELEASING with close count 0, or CLOSED at once. -/
def State.beginClose (n : StreamNo) (s : State) : State :=
  let releasing := s.streams[n].slots != 0 || s.claimInFlight n
  let s := State.modifyStream n Stream.discardInFlight (State.discardQueue n s)
  if releasing then State.modifyStream n (fun st => { st with state := .releasing, closeCount := 0 }) s
  else State.modifyStream n (fun st => { st with state := .closed }) s

/-- R68: the RELEASE record of a stream that has become RELEASING. -/
def State.releaseRecord (n : StreamNo) (s : State) : Record := .release n s.streams[n].slots

/-- R50: records appended at the tail of the queue. -/
def State.appendRecords (rs : List Record) (s : State) : State := State.setQueue (s.ann.queue ++ rs) s

/-! ### Resets -/

/-- R147, R148: every block at its values after reset, with a setup record; the pins and the model's own fields stay. -/
def State.resetBlocks (setup : Setup) (s : State) : State := State.afterReset setup s.pins s.choices s.pending

end Sys2Proof.Machine
end

