-- ==== Sys2Proof/Machine/Boundary.lean ====
section
/-! DEFINITION. A boundary, heard or synthesized (R5, R14), as one indivisible event in every block, and the questions
whether a boundary is there to be taken and what it would bring about. -/

namespace Sys2Proof.Machine

open Sys2Proof

/-- The two kinds of boundary (R5, R14). -/
inductive BoundaryKind where
  | heard | synthesized
  deriving DecidableEq, Repr

/-- R5, R8, R14, R17: the cycle timer at a boundary. -/
def Timer.boundary (kind : BoundaryKind) (own : Nat) (t : Timer) : Timer :=
  { t with
    position := some 0, breakInProgress := false, markTimer := .armed (markExpiryAt own), awaitingRun := false,
    runStart := none, breakStart := none, loneStart := 0, lineDominant := false, cycleCounter := t.cycleCounter + 1,
    markSource := match kind with | .heard => t.markSource | .synthesized => 0,
    markSettled := match kind with | .heard => false | .synthesized => true }

/-- R134: a break attempt is over when the line has returned recessive. -/
def State.endBreak (s : State) : State :=
  if s.line.transmit = .driving .brk then State.endAttempt s else s

/-- R10: the mark character is handed over at a heard boundary with mark owed. -/
def State.handMark (s : State) : State :=
  if s.timer.markOwed then
    State.handOver (.mark s.own) { s with timer := { s.timer with markOwed := false } }
  else s

/-- R2, R5, R10, R137: the cycle timer and the line unit at a boundary.  The mark tail starts. -/
def State.openCycle (kind : BoundaryKind) (s : State) : State :=
  let s := State.closeSegment none (State.endBreak s)
  let s := { s with timer := s.timer.boundary kind s.own, line := { s.line with dominantRun := 0 } }
  let s := State.openSegment .markTail s
  match kind with
  | .heard => State.handMark s
  | .synthesized => s

/-- R25 to R28, R85, R86: the slot map at a boundary, with the CONFIRMED and LAPSED reports to the streams and the
"publisher gone" reports to the taps. -/
def State.ageMap (s : State) : State :=
  let reported (n : StreamNo) (st : Stream) : Stream :=
    let confirmed := s.map.confirmedSlots s.own n
    let lapsed := s.map.lapsedSlots s.own s.setup.leaseLimit n
    let st := if confirmed = 0 then st else st.confirm confirmed
    if lapsed = 0 then st else st.lose lapsed
  State.changeMap (fun m => m.boundary s.setup.leaseLimit) (State.updateStreams reported s)

/-- R88: the boundaries that a RELEASING stream may wait. -/
def closeLimitCount : Nat := 8

/-- R88: the close count of every RELEASING stream. -/
def State.countCloses (s : State) : State :=
  State.updateStreams
    (fun _ st => if st.state = .releasing then { st with closeCount := st.closeCount + 1 } else st) s

/-- R88: the stream has reached the close limit. -/
def Stream.atCloseLimit (st : Stream) : Bool := st.state == .releasing && closeLimitCount ≤ st.closeCount

/-- R69, R88: silent release of every stream that has reached the close limit. -/
def State.releaseOverdue (s : State) : State :=
  (List.finRange 8).foldl (fun s n => if s.streams[n].atCloseLimit then State.silentRelease n s else s) s

/-- R66: the backoff of a stream at a boundary, with the attempt reload. -/
def Stream.countBackoff (reload : Nat) (st : Stream) : Stream :=
  if st.backoff = 0 then st
  else if st.backoff - 1 = 0 then { st with backoff := 0, attempts := reload }
  else { st with backoff := st.backoff - 1 }

/-- R74: the stall report. -/
def stallLimit : Nat := 64

/-- R73: the stall counter counts at a boundary taken with this station state and this stream. -/
def Stream.countsStall (station : StationState) (st : Stream) : Bool :=
  station == .active && st.state == .claiming && st.pending == 0 && st.stall < stallLimit

/-- R66, R73, R74: the announcement unit at a boundary that was taken in the state `taken`. -/
def State.countWaits (taken s : State) : State :=
  let counted (n : StreamNo) (st : Stream) : Stream :=
    let st := if taken.streams[n].state = .closed then st else st.countBackoff s.setup.attemptReload
    if taken.streams[n].countsStall taken.station.state then { st with stall := st.stall + 1 } else st
  State.causes
    (streamFlags .stalled fun n =>
      taken.streams[n].countsStall taken.station.state && taken.streams[n].stall + 1 == stallLimit)
    (State.updateStreams counted s)

/-- R154: the number of faulty verdicts. -/
def faultyCount (window : List Bool) : Nat := window.count true

/-- R154: the mute threshold. -/
def faultThresholdCount : Nat := 8

/-- R154: a verdict enters at the front of the window and the oldest leaves. -/
def shiftWindow (verdict : Bool) (window : List Bool) : List Bool := (verdict :: window).take 16

/-- R154: the verdict of the cycle. -/
def State.takeVerdict (s : State) : State :=
  { s with station := { s.station with window := shiftWindow s.station.faultMark s.station.window, faultMark := false } }

/-- R153: the fault mark is cleared. -/
def State.clearFaultMark (s : State) : State := { s with station := { s.station with faultMark := false } }

/-- R151: heard boundaries to the join. -/
def joinCount : Nat := 3

/-- R151, R154 to R156, R158: station control at a boundary that was taken in the station state `taken`. -/
def State.stationBoundary (kind : BoundaryKind) (taken : StationState) (s : State) : State :=
  match taken with
  | .listening =>
    let s := State.clearFaultMark s
    match kind with
    | .synthesized => s
    | .heard =>
      let s := { s with station := { s.station with listenCount := s.station.listenCount + 1 } }
      if joinCount ≤ s.station.listenCount then State.join s else s
  | .active =>
    let s := State.takeVerdict s
    if faultThresholdCount ≤ faultyCount s.station.window then State.enterMuted s else s
  | .leaving =>
    let s := State.takeVerdict s
    if faultThresholdCount ≤ faultyCount s.station.window then State.leaveEnds (State.silentReleaseAll s)
    else State.leaveIfDone s
  | .muted =>
    let s := State.clearFaultMark s
    let s := { s with station := { s.station with muteRemaining := s.station.muteRemaining - 1 } }
    if s.station.muteRemaining = 0 then State.rejoin s else s
  | _ => s

/-- A boundary in every block: the cycle timer and the line unit, the slot map with its reports, the close counts, the
backoff and stall counts, and then station control, which acts on what the others have left (R155). -/
def State.boundary (kind : BoundaryKind) (s : State) : State :=
  State.changing (fun s =>
    State.stationBoundary kind s.station.state
      (State.countWaits s (State.releaseOverdue (State.countCloses (State.ageMap (State.openCycle kind s)))))) s

/-! ### The boundary that is there to be taken -/

/-- R5: a heard boundary comes when the line returns recessive from a break in progress. -/
def State.heardDue (s : State) : Bool := s.timer.running && s.timer.breakInProgress

/-- R14: a synthesized boundary comes at the expiry of an armed mark timer in MUTED with the line recessive. -/
def State.synthesizedDue (s : State) : Bool :=
  s.timer.running && !s.timer.breakInProgress && s.timer.markTimer != .disarmed && s.station.state == .muted
    && s.line.dominantRun == 0

/-- The boundary that the line or the mark timer can bring next. -/
def State.boundaryDue (s : State) : Option BoundaryKind :=
  if s.heardDue then some .heard else if s.synthesizedDue then some .synthesized else none

/-- A boundary named by something that it brings about: the boundary is taken, whole, if there is one to be taken and it
does bring that about (assumption log 4). -/
def State.boundaryWith (bringsAbout : BoundaryKind → Bool) (s : State) : State :=
  match s.boundaryDue with
  | some kind => if bringsAbout kind then State.boundary kind s else s
  | none => s

/-- R25: a boundary taken now lapses slot k. -/
def State.lapseDue (k : Slot) (s : State) : Bool := s.map[k].lapses s.setup.leaseLimit

/-- R26: a boundary taken now confirms slot k. -/
def State.confirmDue (k : Slot) (s : State) : Bool := s.map[k].confirms

/-- R27: a boundary taken now ends the quarantine of slot k. -/
def State.quarantineEndDue (k : Slot) (s : State) : Bool := s.map[k].quarantineEnds

/-- R66: a boundary taken now ends the backoff of stream n. -/
def State.backoffEndDue (n : StreamNo) (s : State) : Bool :=
  s.streams[n].state != .closed && s.streams[n].backoff == 1

/-- R74: a boundary taken now brings the stall counter of stream n to 64. -/
def State.stallDue (n : StreamNo) (s : State) : Bool :=
  s.streams[n].countsStall s.station.state && s.streams[n].stall + 1 == stallLimit

/-- R88: a boundary taken now brings the close count of stream n to 8. -/
def State.closeLimitDue (n : StreamNo) (s : State) : Bool :=
  s.streams[n].state == .releasing && closeLimitCount ≤ s.streams[n].closeCount + 1

/-- R154: a boundary taken now brings the faulty count to 8 or more. -/
def State.faultThresholdDue (s : State) : Bool :=
  s.mayDrive && faultThresholdCount ≤ faultyCount (shiftWindow s.station.faultMark s.station.window)

/-- R156: a boundary taken now ends the mute period. -/
def State.muteEndDue (s : State) : Bool := s.station.state == .muted && s.station.muteRemaining - 1 == 0

/-- R151: a boundary taken now is the third heard boundary in LISTENING. -/
def State.joinDue (s : State) : Bool := s.station.state == .listening && joinCount ≤ s.station.listenCount + 1

end Sys2Proof.Machine
end

