-- ==== Sys2Proof/Machine/CycleEvents.lean ====
section
/-! DEFINITION. Breaks, boundaries and what boundaries bring about, the two timers, and runs that end short of a break
(01_the_trunk_cycle.md; R129, R130). -/

namespace Sys2Proof.Machine

open Sys2Proof

/-- R130, R138, R139: the frame in progress when a break is recognised, as `rx` shows it or else as the state records it,
is a TRUNCATED error if its char0 is complete.  A char0 that is not complete has its stop bit in the run: it is part of
the break (assumption log 30). -/
def State.breakTruncates (rx : Option Stretch) (s : State) : Bool :=
  let shown := (begun rx).orElse fun _ => if s.line.condition = .receiving then s.line.assembly else none
  shown.any fun r => !r.chars.isEmpty

/-- R139: the end of the segment at the recognition of a break. -/
def State.breakSegment (rx : Option Stretch) (s : State) : State :=
  State.openSegment .outside (if s.breakTruncates rx then State.rxError s else s)

/-- R3, R7, R129, R136 to R139: the recognition of a break. -/
def State.recogniseBreak (rx : Option Stretch) (s : State) : State :=
  if s.timer.running && !s.timer.breakInProgress then
    let s := State.settleMark (State.breakSegment rx (State.cut s))
    { s with
      timer := { s.timer with
        breakInProgress := true, markTimer := .disarmed, awaitingRun := false, runStart := none, loneStart := 0 }
      line := { s.line with dominantRun := 12, lostNote := false } }
  else s

/-- R4: the dominant run reaches its 15th bit time. -/
def State.lineHeld (s : State) : State :=
  if s.timer.running && s.timer.breakInProgress then
    { s with timer := { s.timer with lineDominant := true }, line := { s.line with dominantRun := 15 } }
  else s

/-- R8, R12: the expiry: the timer is DISARMED, at the position of the expiry, with the line as it then is. -/
def State.expire (run : Nat) (s : State) : State :=
  let s' := match s.timer.markTimer with
    | .armed expiry => State.atPosition expiry s
    | _ => s
  State.atRun run { s' with timer := { s'.timer with markTimer := .disarmed } }

/-- R12, R16: where the run began that is `run` bit times long at this event. -/
def State.keepRunStart (run : Nat) (s : State) : State :=
  { s with timer := { s.timer with runStart := s.timer.position.map (· - run) } }

/-- R8, R9, R12, R13, R14: the mark timer expires.  `rx` is what the receive side has begun in the gap, which a
synthesized boundary ends (R139).  An expiry on the run of the station's own lone-start break waits on the run, and the
mark of R16 stays owed: DESIGN CHOICE (assumption log 34). -/
def State.markTimerExpiry (run : Nat) (rx : Option Stretch) (s : State) : State :=
  if s.timer.running && !s.timer.breakInProgress && s.timer.markTimer != .disarmed then
    let s' := State.expire run s
    if run = 0 then
      match s.station.state with
      | .active => State.handBreak s'
      | .leaving => State.handBreak s'
      | .muted => State.boundary .synthesized (State.noteReception rx s')
      | _ => s'
    else State.keepRunStart run { s' with timer := { s'.timer with awaitingRun := true } }
  else s

/-- R15, R16: the lone-start timer reaches 5600 in LISTENING.  Where the position is synchronised, it counts from the same
boundary. -/
def State.loneStart (run : Nat) (s : State) : State :=
  if s.station.state == .listening && s.timer.running && !s.timer.breakInProgress then
    let s' := State.atPosition (characterTimes loneStartLimit) (State.atRun run s)
    if run = 0 then State.loneStartReport s'
    else State.keepRunStart run { s' with timer := { s'.timer with loneStart := loneStartLimit } }
  else s

/-- R16: a lone start waits for the dominant run to end. -/
def State.loneStartWaits (s : State) : Bool := s.station.state == .listening && s.timer.loneStart == loneStartLimit

/-- R12, R16: the position at the end of a run, of `run` bit times, on which one of the two timers waits. -/
def State.runOver (run : Nat) (s : State) : State :=
  if s.timer.awaitingRun || s.loneStartWaits then
    State.countFrom s.timer.runStart run { s with timer := { s.timer with runStart := none } }
  else s

/-- R12: the run on which the mark timer waits has ended. -/
def State.runSettled (s : State) : State :=
  if s.timer.awaitingRun then State.rearm { s with timer := { s.timer with awaitingRun := false } } else s

/-- R16: the run on which the lone start waits has ended. -/
def State.loneStartSettled (s : State) : State := if s.loneStartWaits then State.loneStartReport s else s

/-- R12, R16, R129, R130, R133: a dominant run ends before 12 bit times. -/
def State.shortRunEnd (run : Nat) (stopBit : Bool) (s : State) : State :=
  if s.line.receiver && !s.timer.breakInProgress && 1 ≤ run && run < 12 then
    let s := State.settle s
    let s := if framingRun run stopBit then State.rxError s else s
    State.loneStartSettled (State.runSettled (State.runOver run (State.atRun 0 s)))
  else s

/-- BREAK_RECOGNISED (R3). -/
def execBreakRecognised (rx : Option Stretch) (s : State) : Host.Outcome State Fault Refusal :=
  .next (State.recogniseBreak rx s)

/-- LINE_DOMINANT (R4). -/
def execLineDominant (s : State) : Host.Outcome State Fault Refusal := .next s.lineHeld

/-- HEARD_BOUNDARY (R5). -/
def execHeardBoundary (s : State) : Host.Outcome State Fault Refusal :=
  .next (if s.heardDue then State.boundary .heard s else s)

/-- LAPSE (R25): a boundary at which slot k lapses. -/
def execLapse (k : Slot) (s : State) : Host.Outcome State Fault Refusal :=
  .next (State.boundaryWith (fun _ => s.lapseDue k) s)

/-- CONFIRMED (R26): a boundary at which slot k is confirmed. -/
def execConfirmed (k : Slot) (s : State) : Host.Outcome State Fault Refusal :=
  .next (State.boundaryWith (fun _ => s.confirmDue k) s)

/-- QUARANTINE_END (R27): a boundary at which the quarantine of slot k ends. -/
def execQuarantineEnd (k : Slot) (s : State) : Host.Outcome State Fault Refusal :=
  .next (State.boundaryWith (fun _ => s.quarantineEndDue k) s)

/-- BACKOFF_END (R66): a boundary at which the backoff of stream n ends. -/
def execBackoffEnd (n : StreamNo) (s : State) : Host.Outcome State Fault Refusal :=
  .next (State.boundaryWith (fun _ => s.backoffEndDue n) s)

/-- STALLED (R74): a boundary at which the stall counter of stream n reaches 64. -/
def execStalled (n : StreamNo) (s : State) : Host.Outcome State Fault Refusal :=
  .next (State.boundaryWith (fun _ => s.stallDue n) s)

/-- CLOSE_LIMIT (R88): a boundary at which stream n reaches the close limit. -/
def execCloseLimit (n : StreamNo) (s : State) : Host.Outcome State Fault Refusal :=
  .next (State.boundaryWith (fun _ => s.closeLimitDue n) s)

/-- FAULT_THRESHOLD (R154): a boundary at which the faulty count is 8 or more. -/
def execFaultThreshold (s : State) : Host.Outcome State Fault Refusal :=
  .next (State.boundaryWith (fun _ => s.faultThresholdDue) s)

/-- MUTE_PERIOD_END (R156): a boundary at which the mute period ends. -/
def execMutePeriodEnd (s : State) : Host.Outcome State Fault Refusal :=
  .next (State.boundaryWith (fun _ => s.muteEndDue) s)

/-- JOIN (R151): the third heard boundary in LISTENING. -/
def execJoin (s : State) : Host.Outcome State Fault Refusal :=
  .next (State.boundaryWith (fun kind => kind == .heard && s.joinDue) s)

/-- MARK_TIMER_EXPIRY (R8). -/
def execMarkTimerExpiry (run : Nat) (rx : Option Stretch) (s : State) : Host.Outcome State Fault Refusal :=
  .next (State.markTimerExpiry run rx s)

/-- LONE_START (R16). -/
def execLoneStart (run : Nat) (s : State) : Host.Outcome State Fault Refusal := .next (State.loneStart run s)

/-- SHORT_RUN_END (R12). -/
def execShortRunEnd (run : Nat) (stopBit : Bool) (s : State) : Host.Outcome State Fault Refusal :=
  .next (State.shortRunEnd run stopBit s)

end Sys2Proof.Machine
end

