-- ==== Sys2Proof/Machine/Port.lean ====
section
/-! DEFINITION. The host port's part of every request (10.2 to 10.6): the status codes, the order of the answers, the
answer that is fixed at the taking, the status prefix, and the byte on SDO. -/

namespace Sys2Proof.Machine

open Sys2Proof

/-- The status codes (R182). -/
inductive Status where
  | done | wrongState | badArgument | badSetup | noBuffer | queueFull | empty | duplicate | unknown | notReady
  deriving DecidableEq, Repr

/-- The values of the status codes (R182). -/
def Status.value : Status → Byte
  | .done => 1 | .wrongState => 2 | .badArgument => 3 | .badSetup => 4 | .noBuffer => 5
  | .queueFull => 6 | .empty => 7 | .duplicate => 8 | .unknown => 9 | .notReady => 10

/-- What a block makes of a request: the status, the response data, and the state after the request's effect. -/
structure Reply where
  status : Status
  data   : List Byte
  after  : State
  deriving DecidableEq, Repr

/-- A refusal: no data and no effect. -/
def refuse (status : Status) (s : State) : Reply := { status, data := [], after := s }

/-- A request taken without response data. -/
def taken (s : State) : Reply := { status := .done, data := [], after := s }

/-- A request taken with response data. -/
def answerWith (data : List Byte) (s : State) : Reply := { status := .done, data, after := s }

/-- A row of the request table (10.6): the code, which counts the request needs, and the owning block's part. -/
structure RequestRow where
  code  : Byte
  needs : Nat → Bool
  take  : List Byte → State → Reply

/-- R176: the answer of a complete request: the status byte, and response data after DONE. -/
def present (r : Reply) : State :=
  let s := r.after
  { s with port := { s.port with
      phase := .answer, answer := r.status.value :: (if r.status = .done then r.data else []), answered := 0 } }

/-- R175: the answer of a complete request, case after case.  `row` is the request's row, or none for a code that is
none of the nineteen. -/
def answerRequest (row : Option RequestRow) (count : Byte) (args : List Byte) (s : State) : Reply :=
  if s.station.state = .initialising then refuse .notReady s
  else match row with
    | none => refuse .unknown s
    | some row =>
      if !row.needs count.toNat || 41 ≤ count.toNat then refuse .badArgument s
      else row.take args s

/-- R173: the codes of the station states. -/
def StationState.code : StationState → Nat
  | .initialising => 0 | .offline => 1 | .listening => 2 | .active => 3 | .muted => 4 | .leaving => 5

/-- R173: the status prefix. -/
def State.prefixByte (s : State) : Byte :=
  bitAt 7 true ||| bitAt 6 s.latch.attn ||| byteOf s.station.state.code

/-- R172 to R174, R176, R181: what SDO carries: high-impedance while no selection is open to the port, or else the byte that
is shifted out while the next byte comes in: the prefix, 0, the answer, 0.  The highest bit of the prefix is 1 from the
fall of SEL on, whatever the station does before the first edge (R173).  That a port that is held with SELN low leaves SDO
high-impedance is DEDUCED (assumption log 32). -/
def State.sdo (s : State) : Option Byte :=
  if !s.pins.selLow || s.pins.resetLow then none
  else match s.port.phase with
    | .deselected => none
    | .code => some s.prefixByte
    | .answer => some (s.port.answer[s.port.answered]?.getD 0)
    | _ => some 0

end Sys2Proof.Machine
end

