-- ==== Sys2Proof/Machine/PinEvents.lean ====
section
/-! DEFINITION. The events on the pins SELN and RESETN, and the end of the initialisation period (R147 to R149, R172,
R173, R177, R178, R181). -/

namespace Sys2Proof.Machine

open Sys2Proof

/-- The level of SELN. -/
def State.setSel (low : Bool) (s : State) : State := { s with pins := { s.pins with selLow := low } }

/-- R172, R173: a selection begins in the CODE phase with nothing clocked; the status prefix is not yet fixed. -/
def Port.selected (p : Port) : Port := { Port.reset with phase := .code, held := p.held }

/-- R172: SEL falls.  While RESETN is low the port stays DESELECTED (R181). -/
def State.selFalls (s : State) : State :=
  if s.pins.selLow then s
  else
    let s := State.setSel true s
    if s.pins.resetLow || s.port.phase != .deselected then s
    else { s with port := s.port.selected }

/-- R107, R169, R178: the commit that is owed when SEL rises is abandoned. -/
def State.abandonCommit (s : State) : State :=
  match s.port.owes with
  | some (.pull t) => State.modifyTap t (fun tap => { tap with pullMark := false }) s
  | some .readEvents => { s with latch := s.latch.abandon }
  | none => s

/-- R148, R180: the pending SOFT_RESET is made; the setup record keeps all five fields. -/
def State.softReset (s : State) : State := State.resetBlocks s.setup s

/-- R172, R177, R178, R180: SEL rises. -/
def State.selRises (s : State) : State :=
  if s.pins.selLow then
    let s := State.setSel false s
    if s.port.pendingReset then State.softReset s
    else { State.abandonCommit s with port := .reset }
  else s

/-- R147: RESETN goes low. -/
def State.pinReset (s : State) : State :=
  State.resetBlocks .reset { s with pins := { s.pins with resetLow := true } }

/-- R149, R172: RESETN returns high.  The port is held until SEL has been seen high. -/
def State.pinResetRelease (s : State) : State :=
  if s.pins.resetLow then
    { s with
      pins := { s.pins with resetLow := false }
      port := { s.port with held := s.pins.selLow }
      station := { s.station with initCount := 0 } }
  else s

/-- R149: the CLKIN periods of the initialisation period. -/
def initPeriod : Nat := 512

/-- R149: the end of the 512th CLKIN period. -/
def State.initialisationEnd (s : State) : State :=
  if s.station.state = .initialising ∧ s.pins.resetLow = false then
    State.latches .ready { s with station := { s.station with state := .offline, initCount := initPeriod } }
  else s

/-- SEL_FALLS (R172). -/
def execSelFalls (s : State) : Host.Outcome State Fault Refusal := .next s.selFalls

/-- SEL_RISES (R172). -/
def execSelRises (s : State) : Host.Outcome State Fault Refusal := .next s.selRises

/-- PIN_RESET (R147). -/
def execPinReset (s : State) : Host.Outcome State Fault Refusal := .next s.pinReset

/-- PIN_RESET_RELEASE (R149). -/
def execPinResetRelease (s : State) : Host.Outcome State Fault Refusal := .next s.pinResetRelease

/-- INITIALISATION_END (R149). -/
def execInitialisationEnd (s : State) : Host.Outcome State Fault Refusal := .next s.initialisationEnd

end Sys2Proof.Machine
end

