-- ==== Sys2Proof/Machine/ReceiveEvents.lean ====
section
/-! DEFINITION. What the line unit receives from other stations (7.5) and what the slot map, the taps and the announcement
unit make of it: marks, slot frames, announcements and receive errors. -/

namespace Sys2Proof.Machine

open Sys2Proof

/-- R133, R143: no attempt of this station is WAITING or DRIVING when another station's frame is delivered: its outcome
comes before. -/
def State.outcomeTaken (s : State) : Bool :=
  match s.line.transmit with
  | .waiting _ => false
  | .driving _ => false
  | _ => true

/-- R129, R133, R138, R140, R143: a frame that ends whole in the current segment.  Its stop bit is recessive, so a run is
over and an attempt that is SETTLING has its outcome first.  A frame that is placed and legal, in a segment that admits it,
is delivered; one that is misplaced or illegal, or a second frame, is a receive error. -/
def State.receiveWhole (admits : Bool) (offset : Nat) (legal : Bool) (deliver : State → State) (s : State) : State :=
  if s.line.receiver && admits && s.outcomeTaken then
    let s := State.settle (State.atRun 0 s)
    match s.line.condition with
    | .discarding => s
    | .ended => State.rxError s
    | _ => if offset < placementLimit && legal then deliver (State.endFrame s) else State.rxError s
  else s

/-- The window of the current segment. -/
def State.inWindow (s : State) : Bool :=
  match s.line.segment with
  | .window _ => true
  | _ => false

/-- The slot of the current segment. -/
def State.inSlot (s : State) : Option Slot :=
  match s.line.segment with
  | .slot k => some k
  | _ => none

/-- R7, R138: a mark character. -/
def State.markReceived (offset sender : Nat) (s : State) : State :=
  State.receiveWhole (s.line.segment == .markTail) offset (addressFits sender) (State.takeMark sender) s

/-- R30, R143: the report of the loss of slot k to a frame that is delivered now, with the lost note as it stands. -/
def State.frameLoss (k : Slot) (s : State) : Option LossReport :=
  s.map[k].state.lossReport s.own k (s.map[k].state.frameReason s.line.lostNote)

/-- R29, R30, R86, R41: another station's frame in slot k, in the map and the streams. -/
def State.learnFrame (k : Slot) (f : SlotFrame) (s : State) : State :=
  State.reportLoss (s.frameLoss k) (State.changeMap (fun m => m.learn k f.sender f.stream) s)

/-- R32, R108: a frame of another station reaches the slot map and the taps; one with the own address is a CLASH. -/
def State.deliverFrame (k : Slot) (f : SlotFrame) (s : State) : State :=
  if f.sender = s.own then State.clash s else State.tapTake f (State.learnFrame k f s)

/-- R29: a valid slot frame. -/
def State.slotFrameReceived (offset : Nat) (f : SlotFrame) (s : State) : State :=
  match s.inSlot with
  | some k => State.changing (State.receiveWhole true offset (frameLegal f) (State.deliverFrame k f)) s
  | none => s

/-- R67: the OBJECT records that name no own slot are purged, and one is appended for each named slot without one. -/
def objectRecords (live : Slot → Bool) (named : List Slot) (q : List Record) : List Record :=
  let kept := q.filter fun r => match r with
    | .object k => live k
    | .release _ _ => true
  kept ++ (named.filter fun k => !kept.any fun r => r.isObjectOf k).map Record.object

/-- R35, R67: the report "claim on own slot", made before the claim is applied. -/
def State.claimOnOwn (slots : SlotSet) (s : State) : State :=
  let named := s.map.ownSlotsOf s.own slots
  if named != 0 && s.mayDrive then
    State.setQueue
      (objectRecords (fun k => (s.map[k].state.ownStream s.own).isSome) (SlotSet.toList named) s.ann.queue) s
  else s

/-- R34, R35: another station's CLAIM. -/
def State.hearClaim (sender : Nat) (n : StreamNo) (slots : SlotSet) (s : State) : State :=
  State.changeMap (fun m => m.claim sender n slots) (State.claimOnOwn slots s)

/-- R37, R41: another station's RELEASE. -/
def State.hearRelease (sender : Nat) (slots : SlotSet) (s : State) : State :=
  State.changeMap (fun m => m.release sender slots) s

/-- R39, R41, R86: another station's OBJECT. -/
def State.hearObject (sender : Nat) (n : StreamNo) (k : Slot) (aux : Nat) (s : State) : State :=
  State.reportLoss (s.map[k].state.lossReport s.own k .objected) (State.changeMap (fun m => m.object k sender n aux) s)

/-- R40: an announcement with the own address and without the own mark is a CLASH. -/
def State.deliverAnnouncement (sender : Nat) (apply : State → State) (s : State) : State :=
  if sender = s.own then State.clash s else apply s

/-- R24, R138, R140, R143: an announcement in a window. -/
def State.announcementReceived (offset : Nat) (a : Announcement) (apply : State → State) (s : State) : State :=
  State.changing
    (State.receiveWhole s.inWindow offset (announcementLegal a) (State.deliverAnnouncement a.sender apply)) s

/-- R34: a valid CLAIM. -/
def State.claimReceived (offset sender : Nat) (n : StreamNo) (slots : SlotSet) (s : State) : State :=
  State.announcementReceived offset { kind := .claim, sender, stream := n, slots, aux := 0 }
    (State.hearClaim sender n slots) s

/-- R37: a valid RELEASE. -/
def State.releaseReceived (offset sender : Nat) (n : StreamNo) (slots : SlotSet) (s : State) : State :=
  State.announcementReceived offset { kind := .release, sender, stream := n, slots, aux := 0 }
    (State.hearRelease sender slots) s

/-- R39: a valid OBJECT. -/
def State.objectReceived (offset sender : Nat) (n : StreamNo) (k : Slot) (aux : Nat) (s : State) : State :=
  State.announcementReceived offset { kind := .object, sender, stream := n, slots := SlotSet.only k, aux }
    (State.hearObject sender n k aux) s

/-- R138, R140, R141: a frame that the receive side has begun is an error: it begins in an ENDED segment, or its
characters fail the placement, a field check or the CRC. -/
def State.receptionFails (r : Reception) (s : State) : Bool :=
  s.line.condition == .ended ||
    match judgeReception s.line.segment r with
    | .error _ => true
    | _ => false

/-- R130, R138: what RXD has carried shows an error: a run that is a FRAMING error, or a frame that fails. -/
def State.showsError (heard : Stretch) (s : State) : Bool :=
  (Stretch.received heard).framing || (Stretch.reception heard).any fun r => s.receptionFails r

/-- R129, R130, R138, R142: a receive error, and the dominant run as the line shows it. -/
def State.receiveError (heard : Stretch) (s : State) : State :=
  if s.countsErrors && s.showsError heard then State.rxError (State.noteRun (some heard) s) else s

/-- MARK_RECEIVED (R7). -/
def execMarkReceived (offset sender : Nat) (s : State) : Host.Outcome State Fault Refusal :=
  .next (State.markReceived offset sender s)

/-- SLOT_FRAME_RECEIVED (R29). -/
def execSlotFrameReceived (offset : Nat) (frame : SlotFrame) (s : State) : Host.Outcome State Fault Refusal :=
  .next (State.slotFrameReceived offset frame s)

/-- CLAIM_RECEIVED (R34). -/
def execClaimReceived (offset sender : Nat) (stream : StreamNo) (slots : SlotSet) (s : State) :
    Host.Outcome State Fault Refusal :=
  .next (State.claimReceived offset sender stream slots s)

/-- RELEASE_RECEIVED (R37). -/
def execReleaseReceived (offset sender : Nat) (stream : StreamNo) (slots : SlotSet) (s : State) :
    Host.Outcome State Fault Refusal :=
  .next (State.releaseReceived offset sender stream slots s)

/-- OBJECT_RECEIVED (R39). -/
def execObjectReceived (offset sender : Nat) (stream : StreamNo) (slot : Slot) (aux : Nat) (s : State) :
    Host.Outcome State Fault Refusal :=
  .next (State.objectReceived offset sender stream slot aux s)

/-- RECEIVE_ERROR (R142). -/
def execReceiveError (offset : Nat) (bits : List BitTime) (s : State) : Host.Outcome State Fault Refusal :=
  .next (State.receiveError { offset, bits } s)

end Sys2Proof.Machine
end

