-- ==== Sys2Proof/Machine/SegmentEvents.lean ====
section
/-! DEFINITION. The starts of slots, windows and the gap: what the map, the stream contexts and the announcement unit do
at them (R2, R23, R52 to R57, R91 to R93, R133, R137, R139). -/

namespace Sys2Proof.Machine

open Sys2Proof

/-- R2, R7, R129, R133, R137, R139: a segment starts at a position.  An attempt that is still SETTLING is settled first, then
the frame under assembly; a mark source that is not settled becomes 0. -/
def State.startSegment (segment : Segment) (position : Nat) (rx : Option Stretch) (s : State) : State :=
  let s := State.noteRun rx (State.settleMark (State.closeSegment rx (State.settle s)))
  State.openSegment segment { s with timer := { s.timer with position := some position } }

/-- R136: the lost note is cleared at every slot and window start. -/
def State.clearLostNote (s : State) : State := { s with line := { s.line with lostNote := false } }

/-! ### Frame supply (4.4) -/

/-- R92: a DATA frame of stream n. -/
def dataFrame (own : Nat) (n : StreamNo) (st : Stream) (payload : List Byte) : SlotFrame :=
  { sender := own, stream := n, seq := st.nextSeq, body := .data payload }

/-- R93: a KEEP frame of stream n. -/
def keepFrame (own : Nat) (n : StreamNo) (st : Stream) : SlotFrame :=
  { sender := own, stream := n, seq := st.nextSeq, body := .keep }

/-- R91: the payload that the stream sends at an own slot start; none for a KEEP frame. -/
def Stream.nextPayload (st : Stream) : Option (List Byte) :=
  if st.isOpen && !st.suspended then st.queue.head? else none

/-- R92: the head of the queue becomes the in-flight frame. -/
def Stream.launch (payload : List Byte) (st : Stream) : Stream :=
  { st with queue := st.queue.tail, inFlight := some { payload, discard := false } }

/-- R91 to R93: stream n hands over its frame for slot k; a CLOSED stream, which R91 shows to be never named, has none. -/
def State.supplyFrame (k : Slot) (n : StreamNo) (s : State) : State :=
  let st := s.streams[n]
  if st.state = .closed then s
  else match st.nextPayload with
    | some payload =>
      State.handOver (.slotFrame k (dataFrame s.own n st payload)) (State.modifyStream n (Stream.launch payload) s)
    | none => State.handOver (.slotFrame k (keepFrame s.own n st)) s

/-- R45, R91: the stream contexts at the start of slot k. -/
def State.supply (k : Slot) (s : State) : State :=
  if s.mayDrive && s.line.transmit == .idle then
    match s.map[k].state.ownHeld s.own with
    | some n => State.supplyFrame k n s
    | none => s
  else s

/-- R2, R23, R91: the start of slot k. -/
def State.slotStart (k : Slot) (rx : Option Stretch) (s : State) : State :=
  if s.reportsStart (slotStartAt k) then
    let s := State.clearLostNote (State.startSegment (.slot k) (slotStartAt k) rx s)
    State.supply k { s with map := s.map.reach k }
  else s

/-! ### The offer at a window start (3.3) -/

/-- R53, R54: what the check at a window start leaves of a record: a stale OBJECT goes, a RELEASE is trimmed and goes if
its set is empty. -/
def checkRecord (live : Slot → Bool) (trim : StreamNo → SlotSet → SlotSet) : Record → Option Record
  | .object k => if live k then some (.object k) else none
  | .release n set => if trim n set = 0 then none else some (.release n (trim n set))

/-- R54: the record of stream n is trimmed to an empty set. -/
def emptiedRecord (trim : StreamNo → SlotSet → SlotSet) (n : StreamNo) : Record → Bool
  | .object _ => false
  | .release m set => m == n && trim m set == 0

/-- The slot of an OBJECT record. -/
def Record.objectSlot : Record → Option Slot
  | .object k => some k
  | .release _ _ => none

/-- The stream and the set of a RELEASE record. -/
def Record.releaseSet : Record → Option (StreamNo × SlotSet)
  | .object _ => none
  | .release n set => some (n, set)

/-- R53: the OBJECT of slot k, from the entry as it stands. -/
def objectFor (own : Nat) (k : Slot) : EntryState → Announcement
  | .pending _ n c _ => { kind := .object, sender := own, stream := n, slots := SlotSet.only k, aux := c }
  | .held _ n _ _ => { kind := .object, sender := own, stream := n, slots := SlotSet.only k, aux := 0 }
  | _ => { kind := .object, sender := own, stream := 0, slots := SlotSet.only k, aux := 0 }

/-- R46, R53: the slot is own and not detached. -/
def State.ownsSlot (k : Slot) (s : State) : Bool := (s.map[k].state.ownStream s.own).isSome

/-- R55: own slots held and pending, at most. -/
def ownSlotLimit : Nat := 16

/-- R55: the need of a stream. -/
def Stream.need (st : Stream) : Nat := st.wanted - (SlotSet.card st.held + SlotSet.card st.pending)

/-- R55: the stream is eligible to claim, where the station is ACTIVE. -/
def State.eligible (n : StreamNo) (s : State) : Bool :=
  let st := s.streams[n]
  (st.state == .claiming || st.state == .degraded) && st.backoff == 0 && 1 ≤ st.need && s.ownTotal < ownSlotLimit
    && !s.map.freeSlots.isEmpty

/-- R55: the lowest-numbered eligible stream. -/
def State.claimant (s : State) : Option StreamNo := (List.finRange 8).find? fun n => s.eligible n

/-- The set of the slots of a list. -/
def slotsOf (ks : List Slot) : SlotSet := SlotSet.ofPred fun k => ks.contains k

/-- R56: the slot set of a claim of stream n: the lowest FREE entries, as many as the need and the limit allow. -/
def State.claimSet (n : StreamNo) (s : State) : SlotSet :=
  slotsOf (s.map.freeSlots.take (min s.streams[n].need (ownSlotLimit - s.ownTotal)))

/-- R57: an announcement is handed to the line unit and is the in-flight offer. -/
def State.offerIn (w : WindowNo) (a : Announcement) (s : State) : State :=
  State.handOver (.announcement w a) (State.setOffer (some a) s)

/-- R52, R55, R56: a CLAIM is offered in ACTIVE. -/
def State.offerClaim (w : WindowNo) (s : State) : State :=
  if s.station.state = .active then
    match s.claimant with
    | some n =>
      State.offerIn w { kind := .claim, sender := s.own, stream := n, slots := s.claimSet n, aux := 0 } s
    | none => s
  else s

/-- R53, R54, R68, R77, R87: every record of the queue is checked at a window start, and a stream whose record is trimmed
to an empty set becomes CLOSED.  DEDUCED (assumption log 31): R52 offers the first candidate that survives, and R68 and
R77 close a stream with nothing left at the next window start, whatever stands before its record. -/
def State.checkRecords (s : State) : State :=
  let trim (n : StreamNo) (set : SlotSet) : SlotSet := s.map.trim s.own n set
  let emptied (n : StreamNo) : Bool := s.ann.queue.any (emptiedRecord trim n)
  State.updateStreams (fun n st => if emptied n then Stream.close st else st)
    (State.setQueue (s.ann.queue.filterMap (checkRecord (fun k => s.ownsSlot k) trim)) s)

/-- R52: the first OBJECT that the check has left is offered, or else the first RELEASE, or else a CLAIM. -/
def State.offerFirst (w : WindowNo) (s : State) : State :=
  match s.ann.queue.findSome? Record.objectSlot with
  | some k => State.offerIn w (objectFor s.own k s.map[k].state) s
  | none =>
    match s.ann.queue.findSome? Record.releaseSet with
    | some (n, set) => State.offerIn w { kind := .release, sender := s.own, stream := n, slots := set, aux := 0 } s
    | none => State.offerClaim w (State.leaveIfDone s)

/-- R52 to R56: the choice of one announcement in ACTIVE and LEAVING. -/
def State.offer (w : WindowNo) (s : State) : State :=
  if s.mayDrive && s.line.transmit == .idle then State.offerFirst w s.checkRecords else s

/-- R2, R52: the start of window w. -/
def State.windowStart (w : WindowNo) (rx : Option Stretch) (s : State) : State :=
  if s.reportsStart (windowStartAt w) then
    State.changing (fun s =>
      State.offer w (State.clearLostNote (State.startSegment (.window w) (windowStartAt w) rx s))) s
  else s

/-- R2, R139: the start of the gap. -/
def State.gapStart (rx : Option Stretch) (s : State) : State :=
  if s.reportsStart gapStartAt then State.startSegment .gap gapStartAt rx s else s

/-- SLOT_START (R91). -/
def execSlotStart (k : Slot) (rx : Option Stretch) (s : State) : Host.Outcome State Fault Refusal :=
  .next (State.slotStart k rx s)

/-- WINDOW_START (R52). -/
def execWindowStart (w : WindowNo) (rx : Option Stretch) (s : State) : Host.Outcome State Fault Refusal :=
  .next (State.windowStart w rx s)

/-- GAP_START (R2). -/
def execGapStart (rx : Option Stretch) (s : State) : Host.Outcome State Fault Refusal :=
  .next (State.gapStart rx s)

end Sys2Proof.Machine
end

