-- ==== Sys2Proof/Machine/TapRequests.lean ====
section
/-! DEFINITION. The requests that the taps take, and the commit of PULL (05_taps.md, 5.2). -/

namespace Sys2Proof.Machine

open Sys2Proof

/-- R104: a tap as TAP_ON leaves it. -/
def Tap.turnedOn (source : Nat) (stream : StreamNo) (policy : OverflowPolicy) (t : Tap) : Tap :=
  { t with
    state := .waiting, source := source, sourceStream := stream, policy := policy, expected := 0, gaps := 0,
    fullDrops := 0, noBufferDrops := 0 }

/-- R104: TAP_ON. -/
def takeTapOn (args : List Byte) (s : State) : Reply :=
  match tapOnArgs args with
  | none => refuse .badArgument s
  | some (t, source, stream, policy) =>
    if s.taps[t].state ≠ .off then refuse .wrongState s
    else if (s.tapFor (source, stream)).isSome then refuse .duplicate s
    else taken (State.modifyTap t (Tap.turnedOn source stream policy) s)

/-- R105: a tap is turned off and its queue returns to the pool.  No pull mark can be present. -/
def State.turnOff (t : TapNo) (s : State) : State :=
  State.modifyTap t (fun tap => { tap with state := .off, queue := [], pullMark := false })
    (State.returnBuffers s.taps[t].queue.length s)

/-- R105: TAP_OFF. -/
def takeTapOff (args : List Byte) (s : State) : Reply :=
  match tapArgs args with
  | none => refuse .badArgument s
  | some t => if s.taps[t].state = .off then refuse .wrongState s else taken (State.turnOff t s)

/-- R187: the response of PULL. -/
def RxFrame.record (f : RxFrame) : List Byte := byteOf f.payload.length :: f.seq :: f.payload

/-- R106: the head of the queue receives the pull mark, and the commit is owed. -/
def State.markHead (t : TapNo) (s : State) : State :=
  let s := State.modifyTap t (fun tap => { tap with pullMark := true }) s
  { s with port := { s.port with owes := some (.pull t) } }

/-- R106: PULL. -/
def takePull (args : List Byte) (s : State) : Reply :=
  match tapArgs args with
  | none => refuse .badArgument s
  | some t =>
    if s.taps[t].state = .off then refuse .wrongState s
    else match s.taps[t].queue with
      | [] => refuse .empty s
      | f :: _ => answerWith f.record (State.markHead t s)

/-- R107: the commit of a PULL: the marked frame leaves, if it is still in the queue, and its buffer returns. -/
def State.commitPull (t : TapNo) (s : State) : State :=
  if s.taps[t].pullMark && !s.taps[t].queue.isEmpty then
    State.returnBuffers 1 (State.modifyTap t (fun tap => { tap with queue := tap.queue.tail, pullMark := false }) s)
  else State.modifyTap t (fun tap => { tap with pullMark := false }) s

end Sys2Proof.Machine
end

