-- ==== Sys2Proof/Machine/ReadRequests.lean ====
section
/-! DEFINITION. The requests that read records, and those of the event latch: READ_STATUS, READ_STREAM, READ_TAP,
READ_MAP, READ_EVENTS and SET_ENABLES. -/

namespace Sys2Proof.Machine

open Sys2Proof

/-- R162, R186: the 13 bytes of READ_STATUS. -/
def State.statusRecord (s : State) : List Byte :=
  [byteOf s.station.state.code, byteOf s.own, byteOf s.timer.markSource,
   bitAt 0 s.station.startedTrunk ||| bitAt 1 s.timer.lineDominant]
    ++ word16 s.timer.cycleCounter
    ++ [byteOf (faultyCount s.station.window), byteOf s.station.muteRemaining, byteOf s.freeBuffers]
    ++ word16 s.line.rxErrors
    ++ [byteOf (s.sumStreams fun st => SlotSet.card st.held), byteOf (s.sumStreams fun st => SlotSet.card st.pending)]

/-- R186: the codes of the stream states. -/
def StreamState.code : StreamState → Nat
  | .closed => 0 | .claiming => 1 | .degraded => 2 | .opened => 3 | .releasing => 4

/-- R101, R186: the 23 bytes of READ_STREAM. -/
def Stream.record (st : Stream) : List Byte :=
  let discard := match st.inFlight with | some f => f.discard | none => false
  [byteOf st.state.code, bitAt 0 st.suspended ||| bitAt 1 st.inFlight.isSome ||| bitAt 2 discard, byteOf st.wanted]
    ++ slotSetBytes st.held ++ slotSetBytes st.pending
    ++ [byteOf st.queue.length, st.nextSeq, byteOf st.closeCount]
    ++ word16 st.sent ++ word16 st.requeued ++ word16 st.lost
    ++ [byteOf st.attempts, byteOf st.backoff, byteOf st.stall]

/-- R187: the codes of the tap states. -/
def TapState.code : TapState → Nat
  | .off => 0 | .waiting => 1 | .live => 2 | .stale => 3

/-- R187: the codes of the policies. -/
def OverflowPolicy.code : OverflowPolicy → Nat
  | .keepOldest => 0 | .keepNewest => 1

/-- R117, R187: the 12 bytes of READ_TAP. -/
def Tap.record (t : Tap) : List Byte :=
  [byteOf t.state.code, byteOf t.source, byteOf t.sourceStream, byteOf t.policy.code, byteOf t.queue.length, t.expected]
    ++ word16 t.gaps ++ word16 t.fullDrops ++ word16 t.noBufferDrops

/-- R162: READ_STATUS. -/
def takeReadStatus (_args : List Byte) (s : State) : Reply := answerWith s.statusRecord s

/-- R101: READ_STREAM. -/
def takeReadStream (args : List Byte) (s : State) : Reply :=
  match streamArgs args with
  | none => refuse .badArgument s
  | some n => answerWith s.streams[n].record s

/-- R117: READ_TAP. -/
def takeReadTap (args : List Byte) (s : State) : Reply :=
  match tapArgs args with
  | none => refuse .badArgument s
  | some t => answerWith s.taps[t].record s

/-- R47: READ_MAP. -/
def takeReadMap (_args : List Byte) (s : State) : Reply := answerWith s.map.record s

/-- R167: READ_EVENTS: the snapshot, the reported marks, and the commit that is owed. -/
def takeReadEvents (_args : List Byte) (s : State) : Reply :=
  answerWith s.latch.record { s with latch := s.latch.report, port := { s.port with owes := some .readEvents } }

/-- R166: SET_ENABLES. -/
def takeSetEnables (args : List Byte) (s : State) : Reply :=
  match enablesArgs args with
  | none => refuse .badArgument s
  | some e => taken { s with latch := s.latch.enable e }

end Sys2Proof.Machine
end

