-- ==== Sys2Proof/Machine/StationRequests.lean ====
section
/-! DEFINITION. The requests that station control takes: SETUP, START, STOP and SOFT_RESET (08_station_control.md). -/

namespace Sys2Proof.Machine

open Sys2Proof

/-- R48, R146: the announcement unit at a SETUP. -/
def Stream.reload (attempts : Nat) (st : Stream) : Stream := { st with attempts := attempts, backoff := 0 }

/-- R146: the argument ranges, then the state, then all five fields at once. -/
def takeSetup (args : List Byte) (s : State) : Reply :=
  match setupArgs args with
  | none => refuse .badArgument s
  | some record =>
    if s.station.state ≠ .offline then refuse .wrongState s
    else taken (State.updateStreams (fun _ st => st.reload record.attemptReload) { s with setup := record })

/-- R1, R128, R150: the station enters LISTENING. -/
def State.beginListening (s : State) : State :=
  { s with
    station := { s.station with
      state := .listening, window := cleanWindow, faultMark := false, listenCount := 0, muteRemaining := 0,
      startedTrunk := false }
    timer := .started
    line := s.line.on }

/-- R150: START. -/
def takeStart (_args : List Byte) (s : State) : Reply :=
  if s.station.state ≠ .offline then refuse .wrongState s
  else if s.setup.address = 0 then refuse .badSetup s
  else taken s.beginListening

/-- A stream number placed into a list by ascending rank; equal ranks keep their order. -/
def placeByRank (rank : StreamNo → Nat) (n : StreamNo) : List StreamNo → List StreamNo
  | [] => [n]
  | m :: ms => if rank n ≤ rank m then n :: m :: ms else m :: placeByRank rank n ms

/-- The streams of a list in the order of a rank. -/
def inRankOrder (rank : StreamNo → Nat) (ns : List StreamNo) : List StreamNo := ns.foldr (placeByRank rank) []

/-- R157: STOP closes every stream that is neither CLOSED nor RELEASING. -/
def State.closeStreams (ns : List StreamNo) (s : State) : State := ns.foldl (fun s n => State.beginClose n s) s

/-- R71, R157: STOP in ACTIVE.  The records of the streams that become RELEASING are appended at this event, in an order
that no rule gives (Config.stopRank). -/
def State.beginLeave (s : State) : State :=
  let closing := (List.finRange 8).filter fun n => s.streams[n].isOpen
  let s' := State.closeStreams closing { s with station := { s.station with state := .leaving } }
  let releasing := closing.filter fun n => s'.streams[n].state == .releasing
  let records := (inRankOrder (Config.stopRank s.choices) releasing).map fun n => State.releaseRecord n s'
  State.leaveIfDone { State.appendRecords records s' with choices := s.choices + 1 }

/-- R157: STOP. -/
def takeStop (_args : List Byte) (s : State) : Reply :=
  match s.station.state with
  | .listening => taken (State.changing State.enterOffline s)
  | .muted => taken (State.changing State.enterOffline s)
  | .active => taken (State.changing State.beginLeave s)
  | _ => refuse .wrongState s

/-- R148, R180: SOFT_RESET leaves a reset pending. -/
def takeSoftReset (_args : List Byte) (s : State) : Reply := taken { s with port := { s.port with pendingReset := true } }

end Sys2Proof.Machine
end

