-- ==== Sys2Proof/Machine/StreamRequests.lean ====
section
/-! DEFINITION. The requests that the stream contexts take (04_send_streams.md, 4.2). -/

namespace Sys2Proof.Machine

open Sys2Proof

/-- R48, R79: a stream as OPEN_STREAM leaves it; its queue and in-flight frame are none already. -/
def Stream.opening (wanted reload : Nat) (st : Stream) : Stream :=
  { st with
    state := .claiming, suspended := false, wanted := wanted, held := 0, pending := 0, nextSeq := 0, closeCount := 0,
    sent := 0, requeued := 0, lost := 0, attempts := reload, backoff := 0, stall := 0 }

/-- R78, R79: OPEN_STREAM. -/
def takeOpenStream (args : List Byte) (s : State) : Reply :=
  match openStreamArgs args with
  | none => refuse .badArgument s
  | some (n, wanted) =>
    if s.streams[n].state ≠ .closed ∨ s.station.state = .leaving then refuse .wrongState s
    else taken (State.changing (State.modifyStream n (Stream.opening wanted s.setup.attemptReload)) s)

/-- R68, R80: CLOSE_STREAM on one stream, with its RELEASE record. -/
def State.closeStream (n : StreamNo) (s : State) : State :=
  let s := State.beginClose n s
  State.leaveIfDone
    (if s.streams[n].state = .releasing then State.appendRecords [State.releaseRecord n s] s else s)

/-- R78, R80: CLOSE_STREAM. -/
def takeCloseStream (args : List Byte) (s : State) : Reply :=
  match streamArgs args with
  | none => refuse .badArgument s
  | some n =>
    if !s.streams[n].isOpen then refuse .wrongState s else taken (State.changing (State.closeStream n) s)

/-- R81: the suspended field of a stream that is neither CLOSED nor RELEASING. -/
def takeSuspended (value : Bool) (args : List Byte) (s : State) : Reply :=
  match streamArgs args with
  | none => refuse .badArgument s
  | some n =>
    if !s.streams[n].isOpen then refuse .wrongState s
    else taken (State.modifyStream n (fun st => { st with suspended := value }) s)

/-- R82: the send queue has no room, counting an in-flight frame that may return. -/
def Stream.full (st : Stream) : Bool :=
  8 ≤ st.queue.length || (st.queue.length == 7 && match st.inFlight with | some f => !f.discard | none => false)

/-- R78, R82, R121: PUSH. -/
def takePush (args : List Byte) (s : State) : Reply :=
  match pushArgs args with
  | none => refuse .badArgument s
  | some (n, payload) =>
    if !s.streams[n].isOpen then refuse .wrongState s
    else if s.streams[n].full then refuse .queueFull s
    else if s.freeBuffers ≤ s.setup.receiveReserve then refuse .noBuffer s
    else taken (State.takeBuffer (State.modifyStream n (fun st => { st with queue := st.queue ++ [payload] }) s))

/-- R83: the send queue is discarded and an in-flight frame is marked. -/
def State.flush (n : StreamNo) (s : State) : State := State.modifyStream n Stream.discardInFlight (State.discardQueue n s)

/-- R78, R83: FLUSH. -/
def takeFlush (args : List Byte) (s : State) : Reply :=
  match streamArgs args with
  | none => refuse .badArgument s
  | some n => if s.streams[n].state = .closed then refuse .wrongState s else taken (State.flush n s)

end Sys2Proof.Machine
end

