-- ==== Sys2Proof/Machine/Selection.lean ====
section
/-! DEFINITION. The selection (10.2 to 10.4): the table of the nineteen requests, the bytes that are clocked through the
port, in and out, and the commits of PULL and READ_EVENTS.  A request command is its bytes, clocked one after another. -/

namespace Sys2Proof.Machine

open Sys2Proof

/-! ### The requests (10.6) -/

/-- 10.6: the nineteen requests, each with the counts it needs and the block that owns it; PUSH needs 1 to 33 (R175). -/
def requestTable : List RequestRow :=
  [ { code := 16, needs := (· == 5), take := takeSetup },
    { code := 17, needs := (· == 0), take := takeStart },
    { code := 18, needs := (· == 0), take := takeStop },
    { code := 19, needs := (· == 0), take := takeSoftReset },
    { code := 32, needs := (· == 2), take := takeOpenStream },
    { code := 33, needs := (· == 1), take := takeCloseStream },
    { code := 34, needs := (· == 1), take := takeSuspended true },
    { code := 35, needs := (· == 1), take := takeSuspended false },
    { code := 36, needs := fun n => 1 ≤ n && n ≤ 33, take := takePush },
    { code := 37, needs := (· == 1), take := takeFlush },
    { code := 48, needs := (· == 4), take := takeTapOn },
    { code := 49, needs := (· == 1), take := takeTapOff },
    { code := 50, needs := (· == 1), take := takePull },
    { code := 64, needs := (· == 0), take := takeReadStatus },
    { code := 65, needs := (· == 1), take := takeReadStream },
    { code := 66, needs := (· == 1), take := takeReadTap },
    { code := 67, needs := (· == 0), take := takeReadMap },
    { code := 68, needs := (· == 0), take := takeReadEvents },
    { code := 80, needs := (· == 2), take := takeSetEnables } ]

/-- The row of a request code. -/
def requestRow (code : Byte) : Option RequestRow := requestTable.find? fun row => row.code == code

/-! ### One byte (R172 to R176) -/

/-- The port replaced. -/
def State.modifyPort (f : Port → Port) (s : State) : State := { s with port := f s.port }

/-- A byte leaves on SDO. -/
def Port.shift (b : Byte) (p : Port) : Port := { p with shifted := p.shifted ++ [b] }

/-- R174, R175: the request is complete: the port takes it, with its code, its count and its arguments as received. -/
def State.takeRequest (s : State) : State :=
  let s := State.modifyPort (fun p => { p with phase := .answer }) s
  present (answerRequest (requestRow (s.port.code.getD 0)) (s.port.count.getD 0) s.port.args s)

/-- R172, R173: the request code comes in and the status prefix goes out, fixed as the station and ATTN stand: the eight
edges of a byte are one moment (assumption log 5). -/
def State.clockCode (b : Byte) (s : State) : State :=
  State.modifyPort (fun p => { p with
    phase := .count, statusPrefix := some s.prefixByte, code := some b, count := none, args := [],
    shifted := [s.prefixByte] }) s

/-- R174: the count comes in and 0 goes out; a count of 1 to 40 asks for arguments. -/
def State.clockCount (b : Byte) (s : State) : State :=
  let s := State.modifyPort (fun p => Port.shift 0 { p with count := some b, args := [] }) s
  if 1 ≤ b.toNat ∧ b.toNat ≤ 40 then State.modifyPort (fun p => { p with phase := .arguments }) s else s.takeRequest

/-- R174: an argument comes in and 0 goes out. -/
def State.clockArgument (b : Byte) (s : State) : State :=
  let s := State.modifyPort (fun p => Port.shift 0 { p with args := p.args ++ [b] }) s
  if s.port.args.length < (s.port.count.getD 0).toNat then s else s.takeRequest

/-- R107, R169, R178: the commit that is owed. -/
def State.commitOwed (s : State) : State :=
  match s.port.owes with
  | some (.pull t) => State.commitPull t s
  | some .readEvents => { s with latch := s.latch.commit }
  | none => s

/-- R176, R178: the rest of the answer goes out whole: the commit that is owed comes, and filler follows. -/
def State.answerOut (s : State) : State :=
  State.modifyPort (fun p => { p with
    phase := .filler, answered := p.answer.length, owes := none, shifted := p.shifted ++ p.answer.drop p.answered })
    s.commitOwed

/-- R176: a byte of the answer goes out; the last one is the end of the answer. -/
def State.clockAnswer (s : State) : State :=
  if s.port.answered + 1 < s.port.answer.length then
    State.modifyPort (fun p => Port.shift (p.answer[p.answered]?.getD 0) { p with answered := p.answered + 1 }) s
  else s.answerOut

/-- R172: a byte is clocked through the port.  While the port is held or DESELECTED, SCK is ignored. -/
def State.clock (s : State) (b : Byte) : State :=
  if s.port.held then s
  else match s.port.phase with
    | .deselected => s
    | .code => State.clockCode b s
    | .count => State.clockCount b s
    | .arguments => State.clockArgument b s
    | .answer => s.clockAnswer
    | .filler => State.modifyPort (Port.shift 0) s

/-- Bytes are clocked through the port, one after another. -/
def State.clockBytes (bytes : List Byte) (s : State) : State := bytes.foldl State.clock s

/-! ### The commands -/

/-- SETUP (R146): the code 16 and the bytes after it. -/
def execSetup (bytes : List Byte) (s : State) : Host.Outcome State Fault Refusal := .next (State.clockBytes (16 :: bytes) s)

/-- START (R150): the code 17 and the bytes after it. -/
def execStart (bytes : List Byte) (s : State) : Host.Outcome State Fault Refusal := .next (State.clockBytes (17 :: bytes) s)

/-- STOP (R157): the code 18 and the bytes after it. -/
def execStop (bytes : List Byte) (s : State) : Host.Outcome State Fault Refusal := .next (State.clockBytes (18 :: bytes) s)

/-- SOFT_RESET (R148): the code 19 and the bytes after it. -/
def execSoftReset (bytes : List Byte) (s : State) : Host.Outcome State Fault Refusal := .next (State.clockBytes (19 :: bytes) s)

/-- OPEN_STREAM (R79): the code 32 and the bytes after it. -/
def execOpenStream (bytes : List Byte) (s : State) : Host.Outcome State Fault Refusal := .next (State.clockBytes (32 :: bytes) s)

/-- CLOSE_STREAM (R80): the code 33 and the bytes after it. -/
def execCloseStream (bytes : List Byte) (s : State) : Host.Outcome State Fault Refusal := .next (State.clockBytes (33 :: bytes) s)

/-- SUSPEND_STREAM (R81): the code 34 and the bytes after it. -/
def execSuspendStream (bytes : List Byte) (s : State) : Host.Outcome State Fault Refusal := .next (State.clockBytes (34 :: bytes) s)

/-- RESUME_STREAM (R81): the code 35 and the bytes after it. -/
def execResumeStream (bytes : List Byte) (s : State) : Host.Outcome State Fault Refusal := .next (State.clockBytes (35 :: bytes) s)

/-- PUSH (R82): the code 36 and the bytes after it. -/
def execPush (bytes : List Byte) (s : State) : Host.Outcome State Fault Refusal := .next (State.clockBytes (36 :: bytes) s)

/-- FLUSH (R83): the code 37 and the bytes after it. -/
def execFlush (bytes : List Byte) (s : State) : Host.Outcome State Fault Refusal := .next (State.clockBytes (37 :: bytes) s)

/-- TAP_ON (R104): the code 48 and the bytes after it. -/
def execTapOn (bytes : List Byte) (s : State) : Host.Outcome State Fault Refusal := .next (State.clockBytes (48 :: bytes) s)

/-- TAP_OFF (R105): the code 49 and the bytes after it. -/
def execTapOff (bytes : List Byte) (s : State) : Host.Outcome State Fault Refusal := .next (State.clockBytes (49 :: bytes) s)

/-- PULL (R106): the code 50 and the bytes after it. -/
def execPull (bytes : List Byte) (s : State) : Host.Outcome State Fault Refusal := .next (State.clockBytes (50 :: bytes) s)

/-- READ_STATUS (R162): the code 64 and the bytes after it. -/
def execReadStatus (bytes : List Byte) (s : State) : Host.Outcome State Fault Refusal := .next (State.clockBytes (64 :: bytes) s)

/-- READ_STREAM (R101): the code 65 and the bytes after it. -/
def execReadStream (bytes : List Byte) (s : State) : Host.Outcome State Fault Refusal := .next (State.clockBytes (65 :: bytes) s)

/-- READ_TAP (R117): the code 66 and the bytes after it. -/
def execReadTap (bytes : List Byte) (s : State) : Host.Outcome State Fault Refusal := .next (State.clockBytes (66 :: bytes) s)

/-- READ_MAP (R47): the code 67 and the bytes after it. -/
def execReadMap (bytes : List Byte) (s : State) : Host.Outcome State Fault Refusal := .next (State.clockBytes (67 :: bytes) s)

/-- READ_EVENTS (R167): the code 68 and the bytes after it. -/
def execReadEvents (bytes : List Byte) (s : State) : Host.Outcome State Fault Refusal := .next (State.clockBytes (68 :: bytes) s)

/-- SET_ENABLES (R166): the code 80 and the bytes after it. -/
def execSetEnables (bytes : List Byte) (s : State) : Host.Outcome State Fault Refusal := .next (State.clockBytes (80 :: bytes) s)

/-- UNKNOWN_REQUEST (R175).  A code of the nineteen is not an unknown request: nothing happens. -/
def execUnknownRequest (code : Byte) (bytes : List Byte) (s : State) : Host.Outcome State Fault Refusal :=
  .next (if requestCodes.contains code then s else State.clockBytes (code :: bytes) s)

/-- PULL_COMMIT (R107): only a taken PULL whose answer is being clocked out commits. -/
def execPullCommit (s : State) : Host.Outcome State Fault Refusal :=
  .next (match s.port.owes with
    | some (.pull _) => s.answerOut
    | _ => s)

/-- READ_EVENTS_COMMIT (R169): only a taken READ_EVENTS whose answer is being clocked out commits. -/
def execReadEventsCommit (s : State) : Host.Outcome State Fault Refusal :=
  .next (match s.port.owes with
    | some .readEvents => s.answerOut
    | _ => s)

end Sys2Proof.Machine
end

