-- ==== Sys2Proof/Machine/TransmitEvents.lean ====
section
/-! DEFINITION. The course and the end of an attempt (7.3): the first bit time, a mismatch, a FAULT, and COMPLETE with the
delivery of the own frame. -/

namespace Sys2Proof.Machine

open Sys2Proof

/-- R127, R129, R131, R138: the attempt's first bit is dominant.  The dominant run that is on the line, `run` bit times
long, goes on; on a recessive line the receive side reads the bit back as the start of char0. -/
def State.drive (run : Nat) (rx : Option Stretch) (a : Attempt) (s : State) : State :=
  let s := State.noteReception rx (State.atRun run s)
  let s := State.atPosition a.firstPosition (State.setTransmit (.driving a) .dominant s)
  if run = 0 then State.beginCharacter { offset := a.firstBit, chars := [] } s else s

/-- R129, R131: an attempt's first bit time: it begins driving, or is withdrawn. -/
def State.attemptStart (run : Nat) (rx : Option Stretch) (s : State) : State :=
  match s.line.transmit with
  | .waiting a => if s.mayDrive then State.drive run rx a s else State.endAttempt (State.atRun run s)
  | _ => s

/-- The receive side's char0 is the one that the attempt's own first bit began. -/
def Attempt.beganBy (a : Attempt) (r : Reception) : Bool := r.offset == a.firstBit

/-- The characters of a frame that the receive side has assembled when bit `bit` of the attempt is sent: those sent, where
the attempt began the frame.  A frame that another station began is left as it is recorded. -/
def Attempt.assembled (a : Attempt) (bit : Nat) (r : Reception) : Reception :=
  if a.beganBy r then { r with chars := a.chars.take (bit / 10) } else r

/-- The frame under assembly when bit `bit` of the attempt is sent. -/
def State.assembled (a : Attempt) (bit : Nat) (s : State) : State :=
  { s with line := { s.line with assembly := s.line.assembly.map (a.assembled bit) } }

/-- R129: the dominant run at a bit that is sent recessive and reads dominant: the sent bits that stand before it, with the
run that was on the line at the first bit if all of them are dominant. -/
def State.runAtMismatch (a : Attempt) (bit : Nat) (s : State) : Nat :=
  let own := trailingDominant (a.bits.take bit)
  1 + own + (if own = bit then s.line.dominantRun else 0)

/-- R132: a bit sent recessive and read back dominant.  The position is that of the bit's end. -/
def State.arbitrationMismatch (bit : Nat) (s : State) : State :=
  match s.line.transmit with
  | .driving a =>
    if a.bits[bit]? = some true then
      State.atRun (s.runAtMismatch a bit) (State.assembled a bit (State.atPosition (a.firstPosition + bit + 1)
        (State.setTransmit (.settling a (if bit < arbitrationBits then .lost else .fault)) .recessive s)))
    else s
  | _ => s

/-- R11, R127, R132, R153: a bit sent dominant and read back recessive ends the attempt FAULT at once.  At bit 0 the
character that this bit would have begun is none. -/
def State.dominantFault (a : Attempt) (bit : Nat) (s : State) : State :=
  let s := State.attemptFault a (State.atRun 0 s)
  if a = .brk then State.breakFault bit s
  else if bit = 0 then (if s.line.assembly.any a.beganBy then State.noCharacter s else s)
  else State.assembled a bit s

/-- R129, R132, R133, R153: an attempt ends FAULT, at a dominant bit of a DRIVING attempt, or from SETTLING at the end of
the run that contains the mismatched bit (assumption log 25). -/
def State.transmitFault (bit : Nat) (s : State) : State :=
  match s.line.transmit with
  | .driving a => if a.bits[bit]? = some false then State.dominantFault a bit s else s
  | .settling _ .fault => State.settle (State.atRun 0 s)
  | _ => s

/-- R129, R134: a break attempt ends COMPLETE, after its 14 bit times have read dominant. -/
def State.breakComplete (s : State) : State :=
  if s.line.transmit = .driving .brk then State.endAttempt (State.atRun (max Attempt.brk.bits.length s.line.dominantRun) s)
  else s

/-! ### COMPLETE (R135) -/

/-- R31: the own frame in the slot map. -/
def State.hearOwnFrame (k : Slot) (s : State) : State := { s with map := s.map.hearOwn k }

/-- R94: the in-flight frame is gone, the sequence number and the count advance. -/
def Stream.sentOne (st : Stream) : Stream :=
  { st with inFlight := none, nextSeq := st.nextSeq + 1, sent := Counter.raise st.sent 1 }

/-- R94, R100: the in-flight DATA frame of stream n ends COMPLETE. -/
def State.dataComplete (n : StreamNo) (s : State) : State :=
  let s' := State.modifyStream n Stream.sentOne
    (State.returnBuffers (if s.streams[n].inFlight.isSome then 1 else 0) s)
  if s.streams[n].queue.isEmpty then State.latches (.drained n) s' else s'

/-- R110, R123: the return is taken before the tap's request: with a buffer free the order makes no difference, and with
none it is open (Config.poolReturnFirst). -/
def State.returnFirst (s : State) : Bool := 0 < s.freeBuffers || Config.poolReturnFirst s.choices

/-- An open choice has been made, where `free` buffers, none, were free before it. -/
def State.countChoice (free : Nat) (s : State) : State := if free = 0 then { s with choices := s.choices + 1 } else s

/-- R31, R94, R108, R110: an own slot frame ends COMPLETE and is delivered to the slot map and the taps. -/
def State.frameComplete (k : Slot) (f : SlotFrame) (s : State) : State :=
  let s := State.hearOwnFrame k s
  match f.body with
  | .keep => State.tapTake f s
  | .data _ =>
    State.countChoice s.freeBuffers
      (if s.returnFirst then State.tapTake f (State.dataComplete f.stream s)
       else State.dataComplete f.stream (State.tapTake f s))

/-- R59: a stream whose claim has completed, with the slots made own PENDING. -/
def Stream.claimed (made : SlotSet) (reload : Nat) (st : Stream) : Stream :=
  Stream.derive { st with pending := st.pending ||| made, attempts := reload, stall := 0 }

/-- R59, R68: the slots join the RELEASE record of a RELEASING stream. -/
def Record.join (n : StreamNo) (made : SlotSet) : Record → Record
  | .release m s => if m = n then .release m (s ||| made) else .release m s
  | .object k => .object k

/-- R36, R59: an own CLAIM ends COMPLETE. -/
def State.claimComplete (n : StreamNo) (slots : SlotSet) (s : State) : State :=
  let made := s.map.claimable slots
  let s := State.changeMap (fun m => m.claim s.own n slots) s
  let s := State.modifyStream n (Stream.claimed made s.setup.attemptReload) s
  if s.streams[n].state = .releasing then State.setQueue (s.ann.queue.map (Record.join n made)) s else s

/-- R60: a stream whose RELEASE has completed. -/
def Stream.released (slots : SlotSet) (st : Stream) : Stream :=
  { st with state := .closed, held := st.held &&& ~~~slots, pending := st.pending &&& ~~~slots }

/-- R38, R41, R60, R158: an own RELEASE ends COMPLETE.  Where that ends a leave, "publisher gone" reaches the taps before
the entry to OFFLINE does: DEDUCED (assumption log 33). -/
def State.releaseComplete (n : StreamNo) (slots : SlotSet) (s : State) : State :=
  let s := State.changeMap (fun m => m.release s.own slots) s
  State.leaveIfDone (State.modifyStream n (Stream.released slots) (State.dropRelease n s))

/-- R61: an own OBJECT ends COMPLETE: its record leaves the queue. -/
def State.objectComplete (slots : SlotSet) (s : State) : State :=
  State.setQueue (s.ann.queue.filter fun r => !(SlotSet.toList slots).any fun k => r.isObjectOf k) s

/-- R59 to R61: an own announcement ends COMPLETE. -/
def State.announcementComplete (a : Announcement) (s : State) : State :=
  let s := State.setOffer none s
  match a.kind with
  | .claim => State.claimComplete a.stream a.slots s
  | .release => State.releaseComplete a.stream a.slots s
  | .object => State.objectComplete a.slots s

/-- R135: the current attempt, which is no break, ends COMPLETE. -/
def State.attemptComplete (s : State) : State :=
  match s.line.transmit with
  | .driving (.mark sender) => State.takeMark sender (State.endFrame (State.endAttempt s))
  | .driving (.slotFrame k f) => State.frameComplete k f (State.endFrame (State.endAttempt s))
  | .driving (.announcement _ a) =>
    State.changing (fun s => State.announcementComplete a (State.endFrame (State.endAttempt s))) s
  | _ => s

/-- ATTEMPT_START (R131). -/
def execAttemptStart (s : State) (run : Nat := 0) (rx : Option Stretch := none) : Host.Outcome State Fault Refusal :=
  .next (State.attemptStart run rx s)

/-- ARBITRATION_MISMATCH (R132). -/
def execArbitrationMismatch (bit : Nat) (s : State) : Host.Outcome State Fault Refusal :=
  .next (State.arbitrationMismatch bit s)

/-- TRANSMIT_FAULT (R153). -/
def execTransmitFault (bit : Nat) (s : State) : Host.Outcome State Fault Refusal := .next (State.transmitFault bit s)

/-- BREAK_ATTEMPT_COMPLETE (R134). -/
def execBreakAttemptComplete (s : State) : Host.Outcome State Fault Refusal := .next s.breakComplete

/-- ATTEMPT_COMPLETE (R135). -/
def execAttemptComplete (s : State) : Host.Outcome State Fault Refusal := .next s.attemptComplete

end Sys2Proof.Machine
end

