-- ==== Sys2Proof/Machine/Dispatch.lean ====
section
/-! DEFINITION. The meaning of every command: one arm for each row of spec/opcode_table.json. -/

namespace Sys2Proof.Machine

open Sys2Proof

def exec (i : Instr) (s : State) : Host.Outcome State Fault Refusal :=
  match i with
  | .setup bytes => Sys2Proof.Machine.execSetup bytes s
  | .start bytes => Sys2Proof.Machine.execStart bytes s
  | .stop bytes => Sys2Proof.Machine.execStop bytes s
  | .softReset bytes => Sys2Proof.Machine.execSoftReset bytes s
  | .openStream bytes => Sys2Proof.Machine.execOpenStream bytes s
  | .closeStream bytes => Sys2Proof.Machine.execCloseStream bytes s
  | .suspendStream bytes => Sys2Proof.Machine.execSuspendStream bytes s
  | .resumeStream bytes => Sys2Proof.Machine.execResumeStream bytes s
  | .push bytes => Sys2Proof.Machine.execPush bytes s
  | .flush bytes => Sys2Proof.Machine.execFlush bytes s
  | .tapOn bytes => Sys2Proof.Machine.execTapOn bytes s
  | .tapOff bytes => Sys2Proof.Machine.execTapOff bytes s
  | .pull bytes => Sys2Proof.Machine.execPull bytes s
  | .pullCommit => Sys2Proof.Machine.execPullCommit s
  | .readStatus bytes => Sys2Proof.Machine.execReadStatus bytes s
  | .readStream bytes => Sys2Proof.Machine.execReadStream bytes s
  | .readTap bytes => Sys2Proof.Machine.execReadTap bytes s
  | .readMap bytes => Sys2Proof.Machine.execReadMap bytes s
  | .readEvents bytes => Sys2Proof.Machine.execReadEvents bytes s
  | .readEventsCommit => Sys2Proof.Machine.execReadEventsCommit s
  | .setEnables bytes => Sys2Proof.Machine.execSetEnables bytes s
  | .unknownRequest code bytes => Sys2Proof.Machine.execUnknownRequest code bytes s
  | .selFalls => Sys2Proof.Machine.execSelFalls s
  | .selRises => Sys2Proof.Machine.execSelRises s
  | .pinReset => Sys2Proof.Machine.execPinReset s
  | .pinResetRelease => Sys2Proof.Machine.execPinResetRelease s
  | .initialisationEnd => Sys2Proof.Machine.execInitialisationEnd s
  | .breakRecognised rx => Sys2Proof.Machine.execBreakRecognised rx s
  | .lineDominant => Sys2Proof.Machine.execLineDominant s
  | .heardBoundary => Sys2Proof.Machine.execHeardBoundary s
  | .lapse k => Sys2Proof.Machine.execLapse k s
  | .confirmed k => Sys2Proof.Machine.execConfirmed k s
  | .quarantineEnd k => Sys2Proof.Machine.execQuarantineEnd k s
  | .backoffEnd n => Sys2Proof.Machine.execBackoffEnd n s
  | .stalled n => Sys2Proof.Machine.execStalled n s
  | .closeLimit n => Sys2Proof.Machine.execCloseLimit n s
  | .faultThreshold => Sys2Proof.Machine.execFaultThreshold s
  | .mutePeriodEnd => Sys2Proof.Machine.execMutePeriodEnd s
  | .join => Sys2Proof.Machine.execJoin s
  | .markTimerExpiry run rx => Sys2Proof.Machine.execMarkTimerExpiry run rx s
  | .loneStart run => Sys2Proof.Machine.execLoneStart run s
  | .shortRunEnd run stopBit => Sys2Proof.Machine.execShortRunEnd run stopBit s
  | .slotStart k rx => Sys2Proof.Machine.execSlotStart k rx s
  | .windowStart w rx => Sys2Proof.Machine.execWindowStart w rx s
  | .gapStart rx => Sys2Proof.Machine.execGapStart rx s
  | .attemptStart run rx => Sys2Proof.Machine.execAttemptStart s run rx
  | .arbitrationMismatch bit => Sys2Proof.Machine.execArbitrationMismatch bit s
  | .transmitFault bit => Sys2Proof.Machine.execTransmitFault bit s
  | .breakAttemptComplete => Sys2Proof.Machine.execBreakAttemptComplete s
  | .attemptComplete => Sys2Proof.Machine.execAttemptComplete s
  | .markReceived offset sender => Sys2Proof.Machine.execMarkReceived offset sender s
  | .slotFrameReceived offset frame => Sys2Proof.Machine.execSlotFrameReceived offset frame s
  | .claimReceived offset sender stream slots => Sys2Proof.Machine.execClaimReceived offset sender stream slots s
  | .releaseReceived offset sender stream slots => Sys2Proof.Machine.execReleaseReceived offset sender stream slots s
  | .objectReceived offset sender stream slot aux => Sys2Proof.Machine.execObjectReceived offset sender stream slot aux s
  | .receiveError offset bits => Sys2Proof.Machine.execReceiveError offset bits s

end Sys2Proof.Machine
end

