-- ==== Sys2Proof/Safety.lean ====
section
/-! DEFINITION. What a safe state of the T632 is: the conditions that the spec says hold at every moment.  Each is a
predicate of one state; the statements say that every step keeps them. -/

namespace Sys2Proof.Safety

open Sys2Proof Sys2Proof.Machine

/-- R165: ATTN is active exactly when the kind of a latched flag is enabled. -/
def AttnFollows (s : State) : Prop := s.latch.attn = attnCondition s.latch.flags s.latch.enables

/-! ### The line unit's attempt -/

/-- The current attempt of the line unit. -/
def currentAttempt : Transmit → Option Attempt
  | .idle => none
  | .waiting a => some a
  | .driving a => some a
  | .settling a _ => some a

/-- The stream whose DATA frame an attempt is. -/
def dataStream : Attempt → Option StreamNo
  | .slotFrame _ f =>
    match f.body with
    | .data _ => some f.stream
    | .keep => none
  | _ => none

/-- The announcement that an attempt is. -/
def announced : Attempt → Option Announcement
  | .announcement _ a => some a
  | _ => none

/-- R128, R129, R131, R119, R57: an attempt is current and a mark is owed only in ACTIVE and LEAVING; TXD is dominant only
in DRIVING; while a break is in progress the only attempt is the station's own break and the segment is NONE; a stream has an in-flight frame
exactly while its DATA frame is the current attempt; and the in-flight offer is the announcement that is the current
attempt. -/
structure AttemptsAgree (s : State) : Prop where
  driving_allowed : s.line.transmit ≠ .idle → s.mayDrive = true
  owed_allowed : s.timer.markOwed = true → s.mayDrive = true
  txd_driven : s.line.txd = .dominant → ∃ a, s.line.transmit = .driving a
  break_alone : s.timer.breakInProgress = true → s.line.transmit = .idle ∨ s.line.transmit = .driving .brk
  break_closed : s.timer.breakInProgress = true → s.line.segment = .outside
  in_flight : ∀ n : StreamNo,
    s.streams[n].inFlight.isSome = ((currentAttempt s.line.transmit).bind dataStream == some n)
  offer_flies : s.ann.offer = (currentAttempt s.line.transmit).bind announced

/-! ### Buffers (R119), queues (R82, R102) and taps (R102) -/

/-- R119: the free buffers, the frames in the send queues and in flight, and the frames in the receive queues. -/
def bufferTotal (s : State) : Nat := s.freeBuffers + s.sumStreams Stream.buffers + s.sumTaps fun t => t.queue.length

/-- R119: they add up to 64. -/
def BuffersAddUp (s : State) : Prop := bufferTotal s = 64

/-- An in-flight frame that may return to its queue. -/
def returnable (st : Stream) : Nat :=
  match st.inFlight with
  | some f => if f.discard then 0 else 1
  | none => 0

/-- R82, R102: a send queue, with a frame that may return to it, and a receive queue hold at most 8 frames. -/
def QueuesFit (s : State) : Prop :=
  (∀ n : StreamNo, s.streams[n].queue.length + returnable s.streams[n] ≤ 8) ∧
  (∀ t : TapNo, s.taps[t].queue.length ≤ 8)

/-- R102: no two taps that are not OFF name the same publisher. -/
def TapsDiffer (s : State) : Prop :=
  ∀ t u : TapNo, t ≠ u → s.taps[t].state ≠ .off → s.taps[u].state ≠ .off →
    (s.taps[t].source, s.taps[t].sourceStream) ≠ (s.taps[u].source, s.taps[u].sourceStream)

/-! ### The slot map -/

/-- R22: every entry is FREE with both marks no. -/
def MapClear (m : SlotMap) : Prop := ∀ k : Slot, m[k] = Entry.reset

/-- The station is INITIALISING or OFFLINE. -/
def Resting (s : State) : Prop := s.station.state = .initialising ∨ s.station.state = .offline

/-- R1, R22, R51, R128: in INITIALISING and OFFLINE the timer and the receiver are stopped, the map is clear, every list
is empty, and nothing waits to be announced. -/
def RestsQuietly (s : State) : Prop :=
  Resting s →
    s.timer.running = false ∧ s.timer.breakInProgress = false ∧ s.line.receiver = false ∧ MapClear s.map ∧
    (∀ n : StreamNo, s.streams[n].held = 0 ∧ s.streams[n].pending = 0) ∧ s.ann = .reset

/-- R20, 2.1: the ranges of the fields of an entry's state: the owner is a station address, and only an own entry is
detached. -/
def entryInRange (own leaseLimit : Nat) : EntryState → Prop
  | .free => True
  | .pending o _ c d => (1 ≤ o ∧ o ≤ 62) ∧ (c = 1 ∨ c = 2) ∧ (d = true → o = own)
  | .held o _ silent d => (1 ≤ o ∧ o ≤ 62) ∧ silent < leaseLimit ∧ (d = true → o = own)
  | .quarantine c => c = 1 ∨ c = 2

/-- R20, R146: every entry's fields are in range, and so is the lease limit. -/
def EntriesInRange (s : State) : Prop :=
  2 ≤ s.setup.leaseLimit ∧ s.setup.leaseLimit ≤ 15 ∧
    ∀ k : Slot, entryInRange s.setup.address s.setup.leaseLimit s.map[k].state

/-! ### The mirror (R42) -/

/-- R42: a stream's held list is the own, not detached, HELD entries of the stream, and its pending list the PENDING
ones. -/
def ListsMirrorMap (s : State) : Prop :=
  ∀ (n : StreamNo) (k : Slot),
    SlotSet.has s.streams[n].held k = (s.map[k].state.ownHeld s.own == some n) ∧
    SlotSet.has s.streams[n].pending k = (s.map[k].state.ownPending s.own == some n)

/-- The first set is within the second. -/
def within (a b : SlotSet) : Prop := ∀ k : Slot, SlotSet.has a k = true → SlotSet.has b k = true

/-- The stream that a RELEASE record names. -/
def releaseStream : Record → Option StreamNo
  | .release n _ => some n
  | .object _ => none

/-- R50, R60, R68, R87: a CLOSED stream has empty lists; a stream whose claim is in flight is not CLOSED; a RELEASE record
or a RELEASE in flight belongs to a RELEASING stream and covers its lists; a RELEASE in flight names no other stream's
slot; and no stream has two RELEASE records. -/
structure ReleasesCover (s : State) : Prop where
  closed_empty : ∀ n : StreamNo, s.streams[n].state = .closed → s.streams[n].held = 0 ∧ s.streams[n].pending = 0
  claim_open : ∀ a, s.ann.offer = some a → a.kind = .claim → s.streams[a.stream].state ≠ .closed
  record_covers : ∀ n set, Record.release n set ∈ s.ann.queue →
    s.streams[n].state = .releasing ∧ within s.streams[n].slots set
  flight_covers : ∀ a, s.ann.offer = some a → a.kind = .release →
    s.streams[a.stream].state = .releasing ∧ within s.streams[a.stream].slots a.slots ∧
    ∀ (k : Slot) (m : StreamNo),
      SlotSet.has a.slots k = true → s.map[k].state.ownStream s.own = some m → m = a.stream
  records_differ : (s.ann.queue.filterMap releaseStream).Nodup

/-- The slots that stream n holds, has pending, or claims by a CLAIM in flight. -/
def spoken (s : State) (n : StreamNo) : Nat :=
  SlotSet.card s.streams[n].held + SlotSet.card s.streams[n].pending +
    (match s.ann.offer with
      | some a => if a.kind = .claim ∧ a.stream = n then SlotSet.card a.slots else 0
      | none => 0)

/-- R48, R50, R73, R84, R88, R145: the ranges of a stream's counts.  The lists, with the slots of a CLAIM in flight (R56),
are within the wanted count and, over all streams, within 16; backoff goes with an attempt counter at 0; a stream whose
CLAIM is in flight has no backoff; and no slot has two OBJECT records. -/
structure StreamsInRange (s : State) : Prop where
  reload : 1 ≤ s.setup.attemptReload ∧ s.setup.attemptReload ≤ 15
  wanted : ∀ n : StreamNo, s.streams[n].wanted ≤ 8
  lists : ∀ n : StreamNo, spoken s n ≤ s.streams[n].wanted
  total : ((List.finRange 8).map fun n => spoken s n).sum ≤ 16
  attempts : ∀ n : StreamNo, s.streams[n].attempts ≤ s.setup.attemptReload
  backoff : ∀ n : StreamNo, s.streams[n].backoff ≤ 4 ∧ (s.streams[n].attempts = 0 ↔ s.streams[n].backoff ≠ 0)
  claiming : ∀ a, s.ann.offer = some a → a.kind = .claim → s.streams[a.stream].backoff = 0
  stall : ∀ n : StreamNo, s.streams[n].stall ≤ 64
  closing : ∀ n : StreamNo, s.streams[n].closeCount ≤ 8 ∧ (s.streams[n].state = .releasing → s.streams[n].closeCount < 8)
  objects_differ : (s.ann.queue.filterMap fun r => match r with
    | .object k => some k
    | .release _ _ => none).Nodup

/-- The conditions that together carry R42 through every step. -/
structure MapAndStreamsAgree (s : State) : Prop where
  attempts : AttemptsAgree s
  resting : RestsQuietly s
  releases : ReleasesCover s
  mirror : ListsMirrorMap s

/-! ### The station -/

/-- R145, R146, R149 to R151, R154, R156, R161: the address is 0 to 62, and not 0 outside INITIALISING and OFFLINE; the
attempt reload is 1 to 15 and the receive reserve at most 32; the initialisation count is at most 512; the listen count is
at most 3, and below 3 in LISTENING; the fault window has 16 places; the mute boundaries remaining are 0 outside MUTED and
1 to 32 in it; the timer and the receiver run exactly outside INITIALISING and OFFLINE.  The lease limit stands with the
entries. -/
structure StationInRange (s : State) : Prop where
  address : s.setup.address ≤ 62
  address_set : ¬ Resting s → 1 ≤ s.setup.address
  reload : 1 ≤ s.setup.attemptReload ∧ s.setup.attemptReload ≤ 15
  reserve : s.setup.receiveReserve ≤ 32
  init_count : s.station.initCount ≤ 512
  listen_count : s.station.listenCount ≤ 3 ∧ (s.station.state = .listening → s.station.listenCount < 3)
  window_length : s.station.window.length = 16
  mute_zero : s.station.state ≠ .muted → s.station.muteRemaining = 0
  mute_range : s.station.state = .muted → 1 ≤ s.station.muteRemaining ∧ s.station.muteRemaining ≤ 32
  timer_runs : s.timer.running = true ↔ ¬ Resting s
  receiver_on : s.line.receiver = true ↔ ¬ Resting s

/-! ### Words that the statements use -/

/-- R172, R175: the port takes a complete request and passes it to the block that owns it. -/
def TakesRequests (s : State) : Prop :=
  s.port.phase = .code ∧ s.port.held = false ∧ s.station.state ≠ .initialising

/-- R173, R174, R176: the port after a complete request, with the answer before it: the status prefix has gone out, and a
0 for the count and for each argument. -/
def answeredPort (s : State) (code count : Byte) (args answer : List Byte) : Port :=
  { s.port with
    phase := .answer, statusPrefix := some s.prefixByte, code := some code, count := some count, args := args
    answer := answer, answered := 0, shifted := s.prefixByte :: List.replicate (1 + args.length) 0 }

/-- R175, R176, R182: the request is answered with a status value alone, and nothing but the port changes. -/
def answeredOnly (s : State) (code count : Byte) (args : List Byte) (status : Byte) : State :=
  { s with port := answeredPort s code count args [status] }

/-- R189: the bit of each kind's enable. -/
def enableBit : Flag → Nat
  | .ready => 0 | .joined => 1 | .left => 2 | .muted => 3 | .clash => 4 | .rxError => 5
  | .change _ => 6 | .drained _ => 7 | .stalled _ => 8 | .data _ => 9 | .loss _ => 10 | .stale _ => 11

/-- The flag is set. -/
def flagSet (s : State) (f : Flag) : Bool := s.latch.flags.getLsbD f.index

/-- The flag carries the reported mark. -/
def flagMarked (s : State) (f : Flag) : Bool := s.latch.reported.getLsbD f.index

/-- R164, R165, R168: between two states the causes of exactly these flags have occurred: they are set and lose the
reported mark, the others stay as they are, the enables stay, and ATTN still follows. -/
def Latches (s t : State) (causes : Flag → Bool) : Prop :=
  (∀ f, flagSet t f = (flagSet s f || causes f)) ∧
  (∀ f, flagMarked t f = (flagMarked s f && !causes f)) ∧
  t.latch.enables = s.latch.enables ∧
  (AttnFollows s → AttnFollows t)

/-- The causes of one flag. -/
def oneFlag (f : Flag) : Flag → Bool := fun g => g == f

/-- No cause. -/
def noFlag : Flag → Bool := fun _ => false

/-- R98: CHANGE for the streams whose state or either list length differs between two states. -/
def changeFlags (s t : State) : Flag → Bool
  | .change n => s.streams[n].visible != t.streams[n].visible
  | _ => false

/-- A stream is CLAIMING, DEGRADED or OPEN. -/
abbrev StreamIsOpen (st : Stream) : Prop := st.state = .claiming ∨ st.state = .degraded ∨ st.state = .opened

/-- R65: a CLAIM of the stream is in flight. -/
def ClaimFlies (s : State) (n : StreamNo) : Prop := ∃ a, s.ann.offer = some a ∧ a.kind = .claim ∧ a.stream = n

/-- R82: the send queue has no room, counting the frame that may return. -/
def SendQueueFull (st : Stream) : Prop :=
  8 ≤ st.queue.length ∨ (st.queue.length = 7 ∧ ∃ f, st.inFlight = some f ∧ f.discard = false)

/-- R160: the effects of an entry to OFFLINE that do not depend on its cause. -/
structure EntersOffline (s t : State) : Prop where
  station : t.station = { s.station with state := .offline, muteRemaining := 0, faultMark := false, listenCount := 0 }
  timer : t.timer = { s.timer with
    running := false, position := none, breakInProgress := false, markTimer := .disarmed, awaitingRun := false,
    runStart := none, markOwed := false, breakStart := none, markSettled := true, loneStart := 0, lineDominant := false }
  receiver : t.line.receiver = false ∧ t.line.dominantRun = 0 ∧ t.line.assembly = none
  transmit : t.line.transmit = .idle ∧ t.line.txd = .recessive
  map : MapClear t.map
  queue : t.ann = .reset
  streams : ∀ n : StreamNo, t.streams[n] =
    { s.streams[n] with state := .closed, held := 0, pending := 0, queue := [], inFlight := none }
  taps : ∀ u : TapNo, t.taps[u] = if s.taps[u].state = .off then s.taps[u] else { s.taps[u] with state := .waiting }
  buffers : t.freeBuffers = s.freeBuffers + s.sumStreams Stream.buffers
  setup : t.setup = s.setup
  pins : t.pins = s.pins

/-- The code, the count byte and the arguments of a request command. -/
def requestOf : Instr → Option (Byte × List Byte)
  | .setup b => some (16, b) | .start b => some (17, b) | .stop b => some (18, b) | .softReset b => some (19, b)
  | .openStream b => some (32, b) | .closeStream b => some (33, b) | .suspendStream b => some (34, b)
  | .resumeStream b => some (35, b) | .push b => some (36, b) | .flush b => some (37, b)
  | .tapOn b => some (48, b) | .tapOff b => some (49, b) | .pull b => some (50, b)
  | .readStatus b => some (64, b) | .readStream b => some (65, b) | .readTap b => some (66, b) | .readMap b => some (67, b)
  | .readEvents b => some (68, b) | .setEnables b => some (80, b) | .unknownRequest c b => some (c, b)
  | _ => none

/-- R174, 10.6: the count that each request needs; PUSH needs 1 to 33 (R175). -/
def countFits (code : Byte) (n : Nat) : Prop :=
  if code = 36 then 1 ≤ n ∧ n ≤ 33
  else (code, n) ∈ [((16 : Byte), 5), (17, 0), (18, 0), (19, 0), (32, 2), (33, 1), (34, 1), (35, 1), (37, 1), (48, 4),
    (49, 1), (50, 1), (64, 0), (65, 1), (66, 1), (67, 0), (68, 0), (80, 2)]

/-- R174: the arguments that complete a request with this count. -/
def completes (count : Byte) (args : List Byte) : Prop :=
  (count.toNat ≤ 40 ∧ args.length = count.toNat) ∨ (41 ≤ count.toNat ∧ args = [])

/-- The state, owner, stream and count of an entry as READ_MAP returns them (R47, R188). -/
def mapItems : EntryState → Nat × Nat × Nat × Nat
  | .free => (0, 0, 0, 0)
  | .pending o n c _ => (1, o, n, c)
  | .held o n silent _ => (2, o, n, silent)
  | .quarantine c => (3, 0, 0, c)

/-- Where a flag stands in the READ_EVENTS response: the byte and the bit (R189). -/
def eventPlace : Flag → Nat × Nat
  | .ready => (0, 0) | .joined => (0, 1) | .left => (0, 2) | .muted => (0, 3) | .clash => (0, 4) | .rxError => (0, 5)
  | .change n => (1, n) | .drained n => (2, n) | .stalled n => (3, n)
  | .data t => if t.val < 8 then (5, t) else (4, t - 8)
  | .loss t => if t.val < 8 then (7, t) else (6, t - 8)
  | .stale t => if t.val < 8 then (9, t) else (8, t - 8)

/-! ### Words for the trunk events -/

/-- R139, R142: the current segment ends with a frame that is not whole: one under assembly, or one that `rx` shows. -/
def cutShort (s : State) (rx : Option Stretch) : Bool :=
  s.line.receiver && s.line.segment != .outside &&
    (s.line.condition == .receiving || ((begun rx).isSome && s.line.condition != .discarding))

/-- R130, R138, R139, R142: a break is an error in the current segment: it overruns a frame whose char0 is complete. -/
def Overrun (s : State) (rx : Option Stretch) : Prop :=
  s.line.receiver = true ∧ s.line.segment ≠ .outside ∧ s.line.condition ≠ .discarding ∧
    ∃ r : Reception, r.chars ≠ [] ∧
      (begun rx = some r ∨ (begun rx = none ∧ s.line.condition = .receiving ∧ s.line.assembly = some r))

/-- The cause of RX_ERROR, or none. -/
def errorFlag (e : Bool) : Flag → Bool := fun f => e && f == .rxError

/-- R142: the receive error counter after an error, or none. -/
def errorCount (e : Bool) (c : Counter) : Counter := if e then Counter.raise c 1 else c

/-- The stream of an own slot that is not detached. -/
def ownStreamAt (s : State) (k : Slot) : Option StreamNo := s.map[k].state.ownStream s.setup.address

/-- R2: the cycle timer reports the segment start at this position, which it has not passed. -/
def StartReported (s : State) (position : Nat) : Prop :=
  s.timer.running = true ∧ s.timer.breakInProgress = false ∧ ∃ p, s.timer.position = some p ∧ p < position

/-- R129: the dominant run at the end of what RXD has carried, or what the state records where the event does not tell
it (log entry 15). -/
def runShown (rx : Option Stretch) (recorded : Nat) : Nat :=
  match rx with
  | some x => (Stretch.received x).run
  | none => recorded

/-- R2, R7, R129, R137, R139: what the start of a segment does in the cycle timer and on the receive side. -/
structure SegmentOpens (segment : Segment) (position : Nat) (rx : Option Stretch) (s t : State) : Prop where
  timer : t.timer = { s.timer with
    position := some position, markSettled := true
    markSource := if s.timer.markSettled = true ∧ ¬ (cutShort s rx = true ∧ s.line.segment = .markTail)
      then s.timer.markSource else 0 }
  line : t.line = { s.line with
    dominantRun := runShown rx s.line.dominantRun
    segment := segment, condition := .opened, assembly := none, rxErrors := errorCount (cutShort s rx) s.line.rxErrors
    transmit := t.line.transmit, txd := t.line.txd, lostNote := t.line.lostNote }

/-! #### Attempts -/

/-- R95: a stream whose DATA frame has ended LOST, FAULT or CUT. -/
def returnedStream (st : Stream) : Stream :=
  match st.inFlight with
  | none => st
  | some f =>
    if f.discard then { st with inFlight := none }
    else { st with inFlight := none, queue := f.payload :: st.queue, requeued := Counter.raise st.requeued 1 }

/-- R95: the buffers that come back with it. -/
def returnedBuffers (st : Stream) : Nat :=
  match st.inFlight with
  | some f => if f.discard then 1 else 0
  | none => 0

/-- R62: a stream after one lost claim. -/
def lostClaimStream (own : Nat) (st : Stream) : Stream :=
  if st.state = .claiming ∨ st.state = .degraded then
    if st.attempts ≤ 1 then { st with attempts := 0, backoff := 1 + own % 4 } else { st with attempts := st.attempts - 1 }
  else st

/-- The stream whose CLAIM an attempt is. -/
def claimStream (a : Attempt) : Option StreamNo := ((announced a).filter fun c => c.kind == .claim).map (·.stream)

/-- R62 to R64, R95, R153: what the end of an attempt other than COMPLETE does outside the line unit's receive side.
`outcome` is LOST or FAULT, or none for CUT. -/
structure AttemptFails (outcome : Option Provisional) (a : Attempt) (s t : State) : Prop where
  line : t.line.transmit = .idle ∧ t.line.txd = .recessive
  station : t.station = { s.station with
    faultMark := s.station.faultMark || (outcome == some .fault && s.mayDrive) }
  ann : t.ann = { s.ann with offer := if (announced a).isSome then none else s.ann.offer }
  streams : ∀ n : StreamNo, t.streams[n] =
    if dataStream a = some n then returnedStream s.streams[n]
    else if outcome = some .lost ∧ claimStream a = some n then lostClaimStream s.setup.address s.streams[n]
    else s.streams[n]
  buffers : t.freeBuffers = s.freeBuffers + (match dataStream a with | some n => returnedBuffers s.streams[n] | none => 0)

/-- R6, R131, R133: the attempt that a break cuts; not the station's own break (R134). -/
def cutAttempt : Transmit → Option Attempt
  | .idle => none
  | .driving .brk => none
  | .waiting a => some a
  | .driving a => some a
  | .settling a _ => some a

/-- The attempt is a slot frame. -/
def isSlotFrame : Attempt → Bool
  | .slotFrame _ _ => true
  | _ => false

/-- R130: the run is a FRAMING error in a segment where it can be one (R142). -/
def framingCounts (s : State) (run : Nat) (stopBit : Bool) : Bool :=
  (run == 10 || run == 11 || stopBit) && s.line.segment != .outside && s.line.condition != .discarding

/-- R138: the line unit's receive side after a whole frame. -/
def frameEnded (l : Line) : Line :=
  { l with
    dominantRun := 0, condition := if l.condition = .discarding then .discarding else .ended, assembly := none }

/-- R135, R138: the line unit after an own attempt that has ended COMPLETE. -/
def completedLine (l : Line) : Line := { frameEnded l with transmit := .idle, txd := .recessive }

/-- R138, R143: a whole frame is to be delivered: the receiver is ON, the segment has had no other, no own attempt is
current, and the frame is placed. -/
def Delivers (s : State) (offset : Nat) : Prop :=
  s.line.receiver = true ∧ (s.line.condition = .opened ∨ s.line.condition = .receiving) ∧ s.line.transmit = .idle ∧
    offset < 20

/-! #### Boundaries -/

/-- R5, R14: a boundary of this kind is there to be taken. -/
def BoundaryDue (s : State) : BoundaryKind → Prop
  | .heard => s.timer.running = true ∧ s.timer.breakInProgress = true
  | .synthesized => s.timer.running = true ∧ s.timer.breakInProgress = false ∧ s.timer.markTimer ≠ .disarmed ∧
      s.station.state = .muted

/-- R25: slot k lapses at a boundary. -/
def Lapses (s : State) (k : Slot) : Prop :=
  ∃ o n silent d, s.map[k].state = .held o n silent d ∧ s.map[k].heard = false ∧ s.map[k].reached = true ∧
    silent + 1 = s.setup.leaseLimit

/-- R26: slot k is confirmed at a boundary. -/
def Confirms (s : State) (k : Slot) : Prop := ∃ o n c d, s.map[k].state = .pending o n c d ∧ c ≤ 1

/-- R73, R74: the stall counter of stream n reaches 64 at a boundary. -/
abbrev Stalls (s : State) (n : StreamNo) : Prop :=
  s.station.state = .active ∧ s.streams[n].state = .claiming ∧ s.streams[n].pending = 0 ∧ s.streams[n].stall = 63

/-- R88: stream n reaches the close limit at a boundary. -/
abbrev ReachesCloseLimit (s : State) (n : StreamNo) : Prop := s.streams[n].state = .releasing ∧ 7 ≤ s.streams[n].closeCount

/-- R154: the fault window after a boundary. -/
def nextWindow (s : State) : List Bool := (s.station.faultMark :: s.station.window).take 16

/-- R154: the faulty count after a boundary in ACTIVE or LEAVING. -/
def nextFaulty (s : State) : Nat := (nextWindow s).count true

/-- The line is recessive where the boundary is a synthesized one (R14). -/
abbrev LineAllows (s : State) (kind : BoundaryKind) : Prop := kind = .synthesized → s.line.dominantRun = 0

/-- The commands that are a boundary of this kind: HEARD_BOUNDARY, the expiry in MUTED, and the commands that name a
boundary by something that it brings about (log entry 4). -/
def Brings (s : State) (kind : BoundaryKind) : Instr → Prop
  | .heardBoundary => kind = .heard
  | .markTimerExpiry run _ => kind = .synthesized ∧ run = 0
  | .lapse k => LineAllows s kind ∧ Lapses s k
  | .confirmed k => LineAllows s kind ∧ Confirms s k
  | .quarantineEnd k => LineAllows s kind ∧ ∃ c, s.map[k].state = .quarantine c ∧ c ≤ 1
  | .backoffEnd n => LineAllows s kind ∧ s.streams[n].state ≠ .closed ∧ s.streams[n].backoff = 1
  | .stalled n => LineAllows s kind ∧ Stalls s n
  | .closeLimit n => LineAllows s kind ∧ ReachesCloseLimit s n
  | .faultThreshold => LineAllows s kind ∧ s.mayDrive = true ∧ 8 ≤ nextFaulty s
  | .mutePeriodEnd => LineAllows s kind ∧ s.station.state = .muted ∧ s.station.muteRemaining ≤ 1
  | .join => kind = .heard ∧ s.station.state = .listening ∧ 2 ≤ s.station.listenCount
  | _ => False

/-- The command is a boundary of this kind that is there to be taken. -/
def TakesBoundary (s : State) (kind : BoundaryKind) (c : Instr) : Prop := BoundaryDue s kind ∧ Brings s kind c

/-- The commands that are a boundary or nothing. -/
def NamesBoundary : Instr → Prop
  | .heardBoundary | .lapse _ | .confirmed _ | .quarantineEnd _ | .backoffEnd _ | .stalled _ | .closeLimit _
  | .faultThreshold | .mutePeriodEnd | .join => True
  | _ => False

/-- What the receive side has begun when a boundary comes. -/
def boundaryReception : Instr → Option Stretch
  | .markTimerExpiry _ rx => rx
  | _ => none

/-- R25 to R27: the state of an entry after a boundary. -/
def agedState (leaseLimit : Nat) (e : Entry) : EntryState :=
  match e.state with
  | .free => .free
  | .pending o n c d => if c ≤ 1 then .held o n 0 d else .pending o n (c - 1) d
  | .held o n silent d =>
    if e.heard = true then .held o n 0 d
    else if e.reached = false then .held o n silent d
    else if silent + 1 = leaseLimit then .quarantine 2
    else .held o n (silent + 1) d
  | .quarantine c => if c ≤ 1 then .free else .quarantine (c - 1)

/-- An own or foreign entry with its detached field at yes. -/
def detachedState : EntryState → EntryState
  | .pending o n c _ => .pending o n c true
  | .held o n silent _ => .held o n silent true
  | e => e

/-- R42: the entry is the station's own and one of these streams'. -/
def ownedBy (own : Nat) (p : StreamNo → Bool) (e : EntryState) : Bool :=
  match e.publisher with
  | some (o, n) => o == own && p n
  | none => false

/-- R28, R41: lapses at the boundary leave the publisher no entry. -/
def GoneAtBoundary (s : State) (p : Nat × StreamNo) : Prop :=
  (∃ k : Slot, Lapses s k ∧ s.map[k].state.publisher = some p) ∧
  ∀ k : Slot, s.map[k].state.publisher = some p → Lapses s k

/-- R28: slot k is reported LAPSED to stream n. -/
def LapsesFor (s : State) (n : StreamNo) (k : Slot) : Prop := Lapses s k ∧ ownStreamAt s k = some n

/-- R28: slot k is reported CONFIRMED to stream n. -/
def ConfirmsFor (s : State) (n : StreamNo) (k : Slot) : Prop := Confirms s k ∧ ownStreamAt s k = some n

/-- R77: the state of a stream that is neither CLOSED nor RELEASING, from its held list and its wanted count. -/
def derivedState (held : SlotSet) (wanted : Nat) : StreamState :=
  if held = 0 then .claiming else if wanted ≤ SlotSet.card held then .opened else .degraded

/-- The station has gone from LEAVING to OFFLINE. -/
abbrev Leaves (s t : State) : Prop := s.station.state = .leaving ∧ t.station.state = .offline

/-- The station has gone from ACTIVE to MUTED. -/
abbrev Mutes (s t : State) : Prop := s.station.state = .active ∧ t.station.state = .muted

/-- R86: a stream that has lost one slot. -/
def lostSlotStream (k : Slot) (st : Stream) : Stream :=
  { st with
    held := st.held &&& ~~~SlotSet.only k, pending := st.pending &&& ~~~SlotSet.only k, lost := Counter.raise st.lost 1
    state := if StreamIsOpen st then derivedState (st.held &&& ~~~SlotSet.only k) st.wanted else st.state }

/-- R30, R39: the streams after slot k has been taken from its owner. -/
def streamsAfterLoss (s : State) (k : Slot) : Vector Stream 8 :=
  match ownStreamAt s k with
  | some n => s.streams.set n (lostSlotStream k s.streams[n])
  | none => s.streams

/-! #### Windows -/

/-- R53: no OBJECT record of the queue names a slot that is own and not detached. -/
def NoLiveObject (s : State) : Prop := ∀ k : Slot, Record.object k ∈ s.ann.queue → ownStreamAt s k = none

/-- A RELEASE record, as a stream and a set. -/
def releaseOf : Record → Option (StreamNo × SlotSet)
  | .release n set => some (n, set)
  | .object _ => none

/-- R54: the part of a RELEASE record's set that is still own, not detached and the stream's. -/
def IsPart (s : State) (n : StreamNo) (set part : SlotSet) : Prop :=
  ∀ k : Slot, SlotSet.has part k = (SlotSet.has set k && ownStreamAt s k == some n)

/-- R53, R54: what the check at a window start leaves of a record. -/
def livePart (s : State) : Record → Option Record
  | .object k => if (ownStreamAt s k).isSome then some (.object k) else none
  | .release n set =>
    let part := SlotSet.ofPred fun k => SlotSet.has set k && ownStreamAt s k == some n
    if part = 0 then none else some (.release n part)

/-- R54: a record of stream n has nothing left to release. -/
def Emptied (s : State) (n : StreamNo) : Prop := ∃ set, Record.release n set ∈ s.ann.queue ∧ IsPart s n set 0

/-- R54, R68, R77, R87: the streams after the check of every record at a window start (log entry 31). -/
def ClosesEmptied (s t : State) : Prop := ∀ n : StreamNo,
  (Emptied s n → t.streams[n] = { s.streams[n] with state := .closed, held := 0, pending := 0 }) ∧
  (¬ Emptied s n → t.streams[n] = s.streams[n])

/-- R55: stream n may claim. -/
def Eligible (s : State) (n : StreamNo) : Prop :=
  (s.streams[n].state = .claiming ∨ s.streams[n].state = .degraded) ∧ s.streams[n].backoff = 0 ∧
    SlotSet.card s.streams[n].held + SlotSet.card s.streams[n].pending < s.streams[n].wanted ∧
    (s.sumStreams fun st => SlotSet.card st.held + SlotSet.card st.pending) < 16 ∧ ∃ k : Slot, s.map[k].state = .free

/-- R56: the set of a claim: FREE slots, the lowest ones, as many as the need, the limit and the map allow. -/
structure IsClaimSet (s : State) (n : StreamNo) (set : SlotSet) : Prop where
  free : ∀ k : Slot, SlotSet.has set k = true → s.map[k].state = .free
  lowest : ∀ j k : Slot, j < k → SlotSet.has set k = true → s.map[j].state = .free → SlotSet.has set j = true
  size : SlotSet.card set = min (min
    (s.streams[n].wanted - (SlotSet.card s.streams[n].held + SlotSet.card s.streams[n].pending))
    (16 - s.sumStreams fun st => SlotSet.card st.held + SlotSet.card st.pending))
    (allSlots.countP fun k => s.map[k].state == .free)

/-- R57: the offer is handed to the line unit for window w and is in flight. -/
def OfferMade (w : WindowNo) (a : Announcement) (t : State) : Prop :=
  t.line.transmit = .waiting (.announcement w a) ∧ t.line.txd = .recessive ∧ t.ann.offer = some a

/-- R52: a window start that asks for an offer: reported, with no attempt current, in ACTIVE or LEAVING. -/
def WindowAsks (s : State) (w : WindowNo) : Prop :=
  StartReported s (windowStartAt w) ∧ s.line.transmit = .idle ∧ s.mayDrive = true

/-! #### Taps -/

/-- R108: the tap is not OFF and its publisher is this one. -/
abbrev TapFollows (s : State) (u : TapNo) (sender : Nat) (n : StreamNo) : Prop :=
  s.taps[u].state ≠ .off ∧ s.taps[u].source = sender ∧ s.taps[u].sourceStream = n

/-- R109, R113: the number that the tap expects next. -/
def nextExpected (f : SlotFrame) : Byte :=
  match f.body with
  | .data _ => f.seq + 1
  | .keep => f.seq

/-- R109, R113: the frame shows a gap. -/
def tapGap (f : SlotFrame) (tap : Tap) : Bool := tap.state == .live && f.seq != tap.expected

/-- R109, R113: the tap with its state, its expected number and its gap count after a frame. -/
def tapAccounted (f : SlotFrame) (tap : Tap) : Tap :=
  { tap with
    state := .live, expected := nextExpected f
    gaps := if tap.state = .live then Counter.raise tap.gaps (f.seq - tap.expected).toNat else tap.gaps }

/-- R109 to R113: a tap after a frame of its publisher, where `free` buffers are free. -/
def tapAfter (free : Nat) (f : SlotFrame) (tap : Tap) : Tap :=
  let accounted := tapAccounted f tap
  match f.body with
  | .keep => accounted
  | .data payload =>
    let frame : RxFrame := { seq := f.seq, payload }
    if tap.queue.length < 8 then
      if free = 0 then { accounted with noBufferDrops := Counter.raise tap.noBufferDrops 1 }
      else { accounted with queue := tap.queue ++ [frame] }
    else match tap.policy with
      | .keepOldest => { accounted with fullDrops := Counter.raise tap.fullDrops 1 }
      | .keepNewest => { accounted with
          fullDrops := Counter.raise tap.fullDrops 1, queue := tap.queue.tail ++ [frame], pullMark := false }

/-- R110: the frame takes a buffer. -/
def tapTakes (free : Nat) (f : SlotFrame) (tap : Tap) : Bool :=
  match f.body with
  | .keep => false
  | .data _ => decide (tap.queue.length < 8) && free != 0

/-- R109 to R113: the frame is the cause of LOSS. -/
def tapLoses (free : Nat) (f : SlotFrame) (tap : Tap) : Bool :=
  tapGap f tap ||
    match f.body with
    | .keep => false
    | .data _ => !tapTakes free f tap

/-- R110: the frame is the cause of DATA. -/
def tapFills (free : Nat) (f : SlotFrame) (tap : Tap) : Bool := tapTakes free f tap && tap.queue.isEmpty

/-- R41, R114: the tap becomes STALE at an event that took the map from one to the other. -/
def TapGone (before after : SlotMap) (tap : Tap) : Prop :=
  tap.state = .live ∧
    (∃ k : Slot, before[k].state.publisher = some (tap.source, tap.sourceStream) ∧
      after[k].state.publisher ≠ some (tap.source, tap.sourceStream)) ∧
    ∀ k : Slot, after[k].state.publisher ≠ some (tap.source, tap.sourceStream)

end Sys2Proof.Safety
end

