-- ==== Sys2Proof/Certificates/Slice0/Obligations.lean ====
section
/-! DEFINITION. The statements about the model, chapter by chapter of the spec.  OBLIGATIONS.json lists them. -/

open Sys2Proof Sys2Proof.Machine Sys2Proof.Safety

/-! ### The port and the requests -/

/-- A step takes the command at the front of the queue and carries it out on the state with the queue's rest
(95_what_each_step_holds.md: each step is whole and indivisible).  That an empty queue idles is the model's choice (log
entry 6). -/
def Obligations.StepTakesFrontCommand : Prop :=
  ∀ (c : Instr) (rest : List Instr) (s : State),
    step { s with pending := c :: rest } = exec c { s with pending := rest } ∧
    step { s with pending := [] } = .next { s with pending := [] }

/-- R146: SETUP in OFFLINE with all five arguments in range replaces the record whole, and every stream's attempt counter
and backoff (R48); nothing else changes.  It answers BAD_ARGUMENT if any argument is outside its range, and then
WRONG_STATE if the station is not OFFLINE; a refused SETUP leaves all five fields, and everything else, as they were. -/
def Obligations.SetupReplacesRecord : Prop :=
  (∀ (s : State) (a v l r b : Byte) (rate : BitRate),
      TakesRequests s → s.station.state = .offline → 1 ≤ a.toNat → a.toNat ≤ 62 →
      (v, rate) ∈ [((1 : Byte), BitRate.mbit1), (2, BitRate.mbit2), (4, BitRate.mbit4)] →
      2 ≤ l.toNat → l.toNat ≤ 15 → 1 ≤ r.toNat → r.toNat ≤ 15 → b.toNat ≤ 32 →
      exec (.setup [5, a, v, l, r, b]) s = .next { s with
        setup := { address := a.toNat, bitRate := rate, leaseLimit := l.toNat, attemptReload := r.toNat,
                   receiveReserve := b.toNat }
        streams := Vector.ofFn fun n : StreamNo => { s.streams[n] with attempts := r.toNat, backoff := 0 }
        port := answeredPort s 16 5 [a, v, l, r, b] [1] }) ∧
  (∀ (s : State) (a v l r b : Byte), TakesRequests s →
      let inRange := (1 ≤ a.toNat ∧ a.toNat ≤ 62) ∧ (v = 1 ∨ v = 2 ∨ v = 4) ∧ (2 ≤ l.toNat ∧ l.toNat ≤ 15) ∧
        (1 ≤ r.toNat ∧ r.toNat ≤ 15) ∧ b.toNat ≤ 32
      (¬ inRange → exec (.setup [5, a, v, l, r, b]) s = .next (answeredOnly s 16 5 [a, v, l, r, b] 3)) ∧
      (inRange → s.station.state ≠ .offline →
        exec (.setup [5, a, v, l, r, b]) s = .next (answeredOnly s 16 5 [a, v, l, r, b] 2)))

/-- R150, R1, R128: START in OFFLINE with an address set enters LISTENING; with address 0 it is answered BAD_SETUP, and in
any other state WRONG_STATE. -/
def Obligations.StartEntersListening : Prop :=
  ∀ s : State, TakesRequests s →
    (s.station.state = .offline → s.setup.address ≠ 0 →
      exec (.start [0]) s = .next { s with
        station := { s.station with
          state := .listening, window := List.replicate 16 false, faultMark := false, listenCount := 0,
          muteRemaining := 0, startedTrunk := false }
        timer := { running := true, position := none, breakInProgress := false, markTimer := .disarmed,
                   awaitingRun := false, runStart := none, markOwed := false, breakStart := none, markSource := 0, markSettled := true,
                   loneStart := 0, lineDominant := false, cycleCounter := 0 }
        line := { s.line with
          receiver := true, dominantRun := 0, segment := .outside, condition := .opened, assembly := none }
        port := answeredPort s 17 0 [] [1] }) ∧
    (s.station.state = .offline → s.setup.address = 0 → exec (.start [0]) s = .next (answeredOnly s 17 0 [] 4)) ∧
    (s.station.state ≠ .offline → exec (.start [0]) s = .next (answeredOnly s 17 0 [] 2))

/-- R157, R158, R160: STOP in LISTENING and MUTED takes the station to OFFLINE at once, with CHANGE for the streams that
change and no LEFT; so does STOP in ACTIVE where no stream has slots, a claim in flight or is RELEASING, with LEFT; in
OFFLINE and LEAVING it is answered WRONG_STATE. -/
def Obligations.StopTakesOffline : Prop :=
  ∀ s : State, TakesRequests s →
    (s.station.state = .listening ∨ s.station.state = .muted →
      ∃ t, exec (.stop [0]) s = .next t ∧ EntersOffline s t ∧ Latches s t (changeFlags s t) ∧
        t.port = answeredPort s 18 0 [] [1]) ∧
    (s.station.state = .active →
      (∀ n : StreamNo, s.streams[n].state ≠ .releasing ∧ s.streams[n].slots = 0 ∧ ¬ ClaimFlies s n) →
      ∃ t, exec (.stop [0]) s = .next t ∧ EntersOffline s t ∧ t.port = answeredPort s 18 0 [] [1] ∧
        Latches s t (fun f => f == .left || changeFlags s t f)) ∧
    (s.station.state = .offline ∨ s.station.state = .leaving →
      exec (.stop [0]) s = .next (answeredOnly s 18 0 [] 2))

/-- R157, R80, R68, R71: STOP in ACTIVE, where some stream has slots, a claim in flight, or is RELEASING already, enters
LEAVING.  Each stream that is neither CLOSED nor RELEASING is closed as by CLOSE_STREAM; each that becomes RELEASING has
its record appended behind the records that the queue held; a stream already RELEASING keeps its close count. -/
def Obligations.StopStartsLeave : Prop :=
  ∀ s : State, TakesRequests s → s.station.state = .active →
    (∃ n : StreamNo, s.streams[n].state = .releasing ∨
      (StreamIsOpen s.streams[n] ∧ (s.streams[n].slots ≠ 0 ∨ ClaimFlies s n))) →
    ∃ t records, exec (.stop [0]) s = .next t ∧
      t.station = { s.station with state := .leaving } ∧
      (∀ n : StreamNo,
        (¬ StreamIsOpen s.streams[n] → t.streams[n] = s.streams[n]) ∧
        (StreamIsOpen s.streams[n] → (s.streams[n].slots ≠ 0 ∨ ClaimFlies s n) →
          t.streams[n] = { s.streams[n] with
            state := .releasing, closeCount := 0, queue := [],
            inFlight := s.streams[n].inFlight.map fun f => { f with discard := true } }) ∧
        (StreamIsOpen s.streams[n] → ¬ (s.streams[n].slots ≠ 0 ∨ ClaimFlies s n) →
          t.streams[n] = { s.streams[n] with
            state := .closed, queue := [],
            inFlight := s.streams[n].inFlight.map fun f => { f with discard := true } })) ∧
      t.ann = { s.ann with queue := s.ann.queue ++ records } ∧ records.Nodup ∧
      (∀ r, r ∈ records ↔ ∃ n : StreamNo, r = .release n s.streams[n].slots ∧ StreamIsOpen s.streams[n] ∧
        (s.streams[n].slots ≠ 0 ∨ ClaimFlies s n)) ∧
      t.freeBuffers = s.freeBuffers + (s.sumStreams fun st => if st.isOpen then st.queue.length else 0) ∧
      t.port = answeredPort s 18 0 [] [1] ∧
      t.timer = s.timer ∧ t.line = s.line ∧ t.map = s.map ∧ t.taps = s.taps ∧ t.setup = s.setup ∧ t.pins = s.pins ∧
      Latches s t (changeFlags s t)

/-- R148, R180: SOFT_RESET is answered DONE and changes nothing but the port, which holds a reset pending.  When SEL rises,
every block takes its values after reset, but the setup record keeps its fields and the attempt counters follow it (R49). -/
def Obligations.SoftResetWaitsForSel : Prop :=
  ∀ s : State,
    (TakesRequests s →
      exec (.softReset [0]) s = .next { s with
        port := { answeredPort s 19 0 [] [1] with pendingReset := true } }) ∧
    (s.pins.selLow = true → s.port.pendingReset = true →
      exec .selRises s = .next { State.reset with
        setup := s.setup
        streams := Vector.replicate 8 { Stream.reset 0 with attempts := s.setup.attemptReload }
        pins := { s.pins with selLow := false }, choices := s.choices, pending := s.pending })

/-- R79, R78, R98: OPEN_STREAM on a CLOSED stream, outside LEAVING. -/
def Obligations.OpenStreamBeginsClaiming : Prop :=
  ∀ (s : State) (n : StreamNo) (w : Byte), TakesRequests s → 1 ≤ w.toNat → w.toNat ≤ 8 →
    (s.streams[n].state = .closed → s.station.state ≠ .leaving →
      ∃ t, exec (.openStream [2, byteOf n, w]) s = .next t ∧
        t = { s with
          streams := s.streams.set n { s.streams[n] with
            state := .claiming, suspended := false, wanted := w.toNat, held := 0, pending := 0, nextSeq := 0,
            closeCount := 0, sent := 0, requeued := 0, lost := 0, attempts := s.setup.attemptReload, backoff := 0,
            stall := 0 }
          latch := t.latch
          port := answeredPort s 32 2 [byteOf n, w] [1] } ∧
        Latches s t (oneFlag (.change n))) ∧
    (s.streams[n].state ≠ .closed ∨ s.station.state = .leaving →
      exec (.openStream [2, byteOf n, w]) s = .next (answeredOnly s 32 2 [byteOf n, w] 2))

/-- R80, R68, R98: CLOSE_STREAM, by the table of R80; and WRONG_STATE for a CLOSED or RELEASING stream.  A stream that has
nothing to give up is closed at once outside LEAVING, in which no stream is CLAIMING, DEGRADED or OPEN (R157, R79). -/
def Obligations.CloseStreamByTable : Prop :=
  ∀ (s : State) (n : StreamNo), TakesRequests s →
    let closing (state : StreamState) (count : Nat) : Stream := { s.streams[n] with
      state := state, closeCount := count, queue := [],
      inFlight := s.streams[n].inFlight.map fun f => { f with discard := true } }
    (StreamIsOpen s.streams[n] → (s.streams[n].slots ≠ 0 ∨ ClaimFlies s n) →
      ∃ t, exec (.closeStream [1, byteOf n]) s = .next t ∧
        t = { s with
          streams := s.streams.set n (closing .releasing 0)
          freeBuffers := s.freeBuffers + s.streams[n].queue.length
          ann := { s.ann with queue := s.ann.queue ++ [.release n (s.streams[n].held ||| s.streams[n].pending)] }
          latch := t.latch
          port := answeredPort s 33 1 [byteOf n] [1] } ∧
        Latches s t (oneFlag (.change n))) ∧
    (StreamIsOpen s.streams[n] → ¬ (s.streams[n].slots ≠ 0 ∨ ClaimFlies s n) → s.station.state ≠ .leaving →
      ∃ t, exec (.closeStream [1, byteOf n]) s = .next t ∧
        t = { s with
          streams := s.streams.set n (closing .closed s.streams[n].closeCount)
          freeBuffers := s.freeBuffers + s.streams[n].queue.length
          latch := t.latch
          port := answeredPort s 33 1 [byteOf n] [1] } ∧
        Latches s t (oneFlag (.change n))) ∧
    (¬ StreamIsOpen s.streams[n] → exec (.closeStream [1, byteOf n]) s = .next (answeredOnly s 33 1 [byteOf n] 2))

/-- R81: SUSPEND_STREAM and RESUME_STREAM write the suspended field of a stream that is neither CLOSED nor RELEASING, and
are answered WRONG_STATE for one that is. -/
def Obligations.SuspendAndResume : Prop :=
  ∀ (s : State) (n : StreamNo), TakesRequests s →
    (StreamIsOpen s.streams[n] →
      exec (.suspendStream [1, byteOf n]) s = .next { s with
        streams := s.streams.set n { s.streams[n] with suspended := true }
        port := answeredPort s 34 1 [byteOf n] [1] } ∧
      exec (.resumeStream [1, byteOf n]) s = .next { s with
        streams := s.streams.set n { s.streams[n] with suspended := false }
        port := answeredPort s 35 1 [byteOf n] [1] }) ∧
    (¬ StreamIsOpen s.streams[n] →
      exec (.suspendStream [1, byteOf n]) s = .next (answeredOnly s 34 1 [byteOf n] 2) ∧
      exec (.resumeStream [1, byteOf n]) s = .next (answeredOnly s 35 1 [byteOf n] 2))

/-- R82, R121, R78: PUSH takes one buffer and appends the payload; its refusals come in the order WRONG_STATE, QUEUE_FULL,
NO_BUFFER. -/
def Obligations.PushChecksInOrder : Prop :=
  ∀ (s : State) (n : StreamNo) (payload : List Byte), TakesRequests s → payload.length ≤ 32 →
    let count := byteOf (1 + payload.length)
    let refused := fun status => answeredOnly s 36 count (byteOf n :: payload) status
    (¬ StreamIsOpen s.streams[n] → exec (.push (count :: byteOf n :: payload)) s = .next (refused 2)) ∧
    (StreamIsOpen s.streams[n] → SendQueueFull s.streams[n] →
      exec (.push (count :: byteOf n :: payload)) s = .next (refused 6)) ∧
    (StreamIsOpen s.streams[n] → ¬ SendQueueFull s.streams[n] → s.freeBuffers ≤ s.setup.receiveReserve →
      exec (.push (count :: byteOf n :: payload)) s = .next (refused 5)) ∧
    (StreamIsOpen s.streams[n] → ¬ SendQueueFull s.streams[n] → s.setup.receiveReserve < s.freeBuffers →
      exec (.push (count :: byteOf n :: payload)) s = .next { s with
        streams := s.streams.set n { s.streams[n] with queue := s.streams[n].queue ++ [payload] }
        freeBuffers := s.freeBuffers - 1
        port := answeredPort s 36 count (byteOf n :: payload) [1] })

/-- R83: FLUSH discards the send queue, returns its buffers and marks an in-flight frame; a CLOSED stream is refused.  R105:
TAP_OFF returns the receive queue's buffers and leaves the tap's other fields; an OFF tap is refused. -/
def Obligations.FlushAndTapOffReturnBuffers : Prop :=
  (∀ (s : State) (n : StreamNo), TakesRequests s →
      (s.streams[n].state ≠ .closed →
        exec (.flush [1, byteOf n]) s = .next { s with
          streams := s.streams.set n { s.streams[n] with
            queue := [], inFlight := s.streams[n].inFlight.map fun f => { f with discard := true } }
          freeBuffers := s.freeBuffers + s.streams[n].queue.length
          port := answeredPort s 37 1 [byteOf n] [1] }) ∧
      (s.streams[n].state = .closed → exec (.flush [1, byteOf n]) s = .next (answeredOnly s 37 1 [byteOf n] 2))) ∧
  (∀ (s : State) (t : TapNo), TakesRequests s →
      (s.taps[t].state ≠ .off →
        exec (.tapOff [1, byteOf t]) s = .next { s with
          taps := s.taps.set t { s.taps[t] with state := .off, queue := [], pullMark := false }
          freeBuffers := s.freeBuffers + s.taps[t].queue.length
          port := answeredPort s 49 1 [byteOf t] [1] }) ∧
      (s.taps[t].state = .off → exec (.tapOff [1, byteOf t]) s = .next (answeredOnly s 49 1 [byteOf t] 2)))

/-- R104, R182: TAP_ON checks its arguments (BAD_ARGUMENT), then that the tap is OFF (WRONG_STATE), then that no other tap
follows the publisher (DUPLICATE); a request that passes turns the tap WAITING with fresh counts. -/
def Obligations.TapOnChecksInOrder : Prop :=
  ∀ (s : State) (t : TapNo) (a : Byte) (n : StreamNo) (p : Byte) (policy : OverflowPolicy), TakesRequests s →
    1 ≤ a.toNat → a.toNat ≤ 62 → (p, policy) ∈ [((0 : Byte), OverflowPolicy.keepOldest), (1, .keepNewest)] →
    let args := [byteOf t, a, byteOf n, p]
    let followed := ∃ u : TapNo, s.taps[u].state ≠ .off ∧ s.taps[u].source = a.toNat ∧ s.taps[u].sourceStream = n
    (s.taps[t].state ≠ .off → exec (.tapOn (4 :: args)) s = .next (answeredOnly s 48 4 args 2)) ∧
    (s.taps[t].state = .off → followed → exec (.tapOn (4 :: args)) s = .next (answeredOnly s 48 4 args 8)) ∧
    (s.taps[t].state = .off → ¬ followed →
      exec (.tapOn (4 :: args)) s = .next { s with
        taps := s.taps.set t { s.taps[t] with
          state := .waiting, source := a.toNat, sourceStream := n, policy := policy, expected := 0, gaps := 0,
          fullDrops := 0, noBufferDrops := 0 }
        port := answeredPort s 48 4 args [1] })

/-- R78, R104 to R106, R101, R117, R182: a stream number above 7 or a tap number above 11 is answered BAD_ARGUMENT by every
request that names one, and so are a wanted count outside 1 to 8, a source address outside 1 to 62 and a policy above 1. -/
def Obligations.NumbersOutOfRangeRefused : Prop :=
  ∀ (s : State) (x w : Byte) (payload : List Byte), TakesRequests s → payload.length ≤ 32 →
    (8 ≤ x.toNat →
      exec (.openStream [2, x, w]) s = .next (answeredOnly s 32 2 [x, w] 3) ∧
      exec (.closeStream [1, x]) s = .next (answeredOnly s 33 1 [x] 3) ∧
      exec (.suspendStream [1, x]) s = .next (answeredOnly s 34 1 [x] 3) ∧
      exec (.resumeStream [1, x]) s = .next (answeredOnly s 35 1 [x] 3) ∧
      exec (.push (byteOf (1 + payload.length) :: x :: payload)) s =
        .next (answeredOnly s 36 (byteOf (1 + payload.length)) (x :: payload) 3) ∧
      exec (.flush [1, x]) s = .next (answeredOnly s 37 1 [x] 3) ∧
      exec (.readStream [1, x]) s = .next (answeredOnly s 65 1 [x] 3)) ∧
    (12 ≤ x.toNat →
      exec (.tapOff [1, x]) s = .next (answeredOnly s 49 1 [x] 3) ∧
      exec (.pull [1, x]) s = .next (answeredOnly s 50 1 [x] 3) ∧
      exec (.readTap [1, x]) s = .next (answeredOnly s 66 1 [x] 3)) ∧
    (∀ n : StreamNo, w.toNat = 0 ∨ 8 < w.toNat →
      exec (.openStream [2, byteOf n, w]) s = .next (answeredOnly s 32 2 [byteOf n, w] 3)) ∧
    (∀ t a n p : Byte, 12 ≤ t.toNat ∨ a.toNat = 0 ∨ 62 < a.toNat ∨ 8 ≤ n.toNat ∨ 1 < p.toNat →
      exec (.tapOn [4, t, a, n, p]) s = .next (answeredOnly s 48 4 [t, a, n, p] 3))

/-- R106, R187, R178: PULL answers with the head frame, marks it and owes a commit; WRONG_STATE for an OFF tap, EMPTY for
an empty queue. -/
def Obligations.PullMarksHead : Prop :=
  ∀ (s : State) (t : TapNo), TakesRequests s →
    (s.taps[t].state = .off → exec (.pull [1, byteOf t]) s = .next (answeredOnly s 50 1 [byteOf t] 2)) ∧
    (s.taps[t].state ≠ .off → s.taps[t].queue = [] →
      exec (.pull [1, byteOf t]) s = .next (answeredOnly s 50 1 [byteOf t] 7)) ∧
    (∀ (f : RxFrame) (rest : List RxFrame), s.taps[t].state ≠ .off → s.taps[t].queue = f :: rest →
      exec (.pull [1, byteOf t]) s = .next { s with
        taps := s.taps.set t { s.taps[t] with pullMark := true }
        port := { answeredPort s 50 1 [byteOf t] (1 :: byteOf f.payload.length :: f.seq :: f.payload) with
          owes := some (.pull t) } })

/-- R107, R178, R176: the commit of a PULL removes the marked frame and returns its buffer; where the marked frame has
already left the queue it removes nothing.  The rest of the answer is then out, and filler follows. -/
def Obligations.PullCommitRemovesMarked : Prop :=
  ∀ (s : State) (t : TapNo), s.port.owes = some (.pull t) →
    let out : Port := { s.port with
      phase := .filler, answered := s.port.answer.length, owes := none
      shifted := s.port.shifted ++ s.port.answer.drop s.port.answered }
    (∀ (f : RxFrame) (rest : List RxFrame), s.taps[t].pullMark = true → s.taps[t].queue = f :: rest →
      exec .pullCommit s = .next { s with
        taps := s.taps.set t { s.taps[t] with queue := rest, pullMark := false }
        freeBuffers := s.freeBuffers + 1
        port := out }) ∧
    (s.taps[t].pullMark = false → exec .pullCommit s = .next { s with port := out })

/-- R172, R177, R178, R107, R169: SEL rises with no SOFT_RESET pending: the port is DESELECTED; a PULL that has not
committed loses its mark, a READ_EVENTS that has not committed loses its reported marks, and nothing else changes.  SDO is
high-impedance (10.1). -/
def Obligations.SelRisesAbandons : Prop :=
  ∀ s : State, s.pins.selLow = true → s.port.pendingReset = false →
    let up : Pins := { s.pins with selLow := false }
    (s.port.owes = none → exec .selRises s = .next { s with pins := up, port := .reset }) ∧
    (∀ t : TapNo, s.port.owes = some (.pull t) →
      exec .selRises s = .next { s with
        pins := up, port := .reset, taps := s.taps.set t { s.taps[t] with pullMark := false } }) ∧
    (s.port.owes = some .readEvents →
      exec .selRises s = .next { s with pins := up, port := .reset, latch := { s.latch with reported := 0 } }) ∧
    ∃ t, exec .selRises s = .next t ∧ t.sdo = none

/-- R172, R173, R165: SEL falls on a DESELECTED port out of reset: the phase is CODE with nothing clocked, and bit 7 of SDO
is 1.  The code byte takes the port to COUNT and shifts the status prefix out: bit 7 at 1, the ATTN condition in bit 6, 0
in bits 5 to 3 and the station state's code in bits 2 to 0, as they stand at that byte.  That the eight edges of a byte
come with no command between is log entry 5. -/
def Obligations.SelFallsBeginsSelection : Prop :=
  (∀ s : State, s.pins.selLow = false → s.pins.resetLow = false → s.port.phase = .deselected →
    ∃ t, exec .selFalls s = .next t ∧
      t = { s with
        pins := { s.pins with selLow := true }, port := { Port.reset with phase := .code, held := s.port.held } } ∧
      ∃ b, t.sdo = some b ∧ b.getLsbD 7 = true) ∧
  (∀ (c : Instr) (code : Byte) (s : State), requestOf c = some (code, []) → c.wellFormed = true →
    s.port.phase = .code → s.port.held = false →
    ∃ p : Byte, exec c s = .next { s with port := { s.port with
        phase := .count, statusPrefix := some p, code := some code, count := none, args := [], shifted := [p] } } ∧
      p.getLsbD 7 = true ∧ p.getLsbD 6 = s.latch.attn ∧ p.extractLsb' 3 3 = 0 ∧
      (p.extractLsb' 0 3).toNat = (match s.station.state with
        | .initialising => 0 | .offline => 1 | .listening => 2 | .active => 3 | .muted => 4 | .leaving => 5) ∧
      (s.pins.selLow = true → s.pins.resetLow = false → s.sdo = some p))

/-- R175, R179, R182, R183: the port's answers, in order, to any complete request: NOT_READY in INITIALISING, then UNKNOWN
for a code that is none of the nineteen, then BAD_ARGUMENT for a count that the request does not need or that is 41 or
more.  No block sees the request. -/
def Obligations.PortAnswersBeforeBlocks : Prop :=
  ∀ (c : Instr) (code n : Byte) (args : List Byte) (s : State),
    requestOf c = some (code, n :: args) → c.wellFormed = true → completes n args →
    s.port.phase = .code → s.port.held = false →
    (s.station.state = .initialising → exec c s = .next (answeredOnly s code n args 10)) ∧
    (s.station.state ≠ .initialising → code ∉ requestCodes → exec c s = .next (answeredOnly s code n args 9)) ∧
    (s.station.state ≠ .initialising → code ∈ requestCodes → ¬ countFits code n.toNat →
      exec c s = .next (answeredOnly s code n args 3))

/-- R172, R174, R176, R177: a request that is not complete moves the port to its COUNT or ARGUMENTS phase and reaches no
block.  Bytes change nothing while the port is held or DESELECTED.  The bytes of a request may come in pieces: a request
command carries bytes that are clocked through the port, its code first, and in the later phases they are the count, the
arguments, or bytes that the port ignores while the answer and then 0 go out; the last byte of an answer is the commit of
a PULL or READ_EVENTS.  What SDO shows is what the next byte shifts out.  That a request command carries bytes in every
phase is log entry 28. -/
def Obligations.IncompleteRequestReachesNoBlock : Prop :=
  ∀ (c : Instr) (code : Byte) (bytes : List Byte) (s : State),
    requestOf c = some (code, bytes) → c.wellFormed = true →
    (s.port.phase = .code → s.port.held = false →
      (bytes = [] → exec c s = .next { s with port := { s.port with
        phase := .count, statusPrefix := some s.prefixByte, code := some code, count := none, args := []
        shifted := [s.prefixByte] } }) ∧
      (∀ n args, bytes = n :: args → n.toNat ≤ 40 → args.length < n.toNat → exec c s = .next { s with port := { s.port with
        phase := .arguments, statusPrefix := some s.prefixByte, code := some code, count := some n, args := args
        shifted := s.prefixByte :: List.replicate (1 + args.length) 0 } })) ∧
    (s.port.phase = .deselected ∨ s.port.held = true → exec c s = .next s) ∧
    (∀ c₁ c₂ first x rest, bytes = first ++ x :: rest → requestOf c₁ = some (code, first) → c₁.wellFormed = true →
      requestOf c₂ = some (x, rest) → c₂.wellFormed = true → ∃ u, exec c₁ s = .next u ∧ exec c s = exec c₂ u) ∧
    (s.port.phase = .answer → s.port.held = false → bytes = [] →
      (∀ x, s.port.answered + 1 < s.port.answer.length → s.port.answer[s.port.answered]? = some x →
        exec c s = .next { s with port := { s.port with
          answered := s.port.answered + 1, shifted := s.port.shifted ++ [x] } }) ∧
      (∀ x, s.port.answered + 1 = s.port.answer.length → s.port.answer[s.port.answered]? = some x →
        (s.port.owes = none → exec c s = .next { s with port := { s.port with
          phase := .filler, answered := s.port.answered + 1, shifted := s.port.shifted ++ [x] } }) ∧
        (∀ t, s.port.owes = some (.pull t) → exec c s = exec .pullCommit s) ∧
        (s.port.owes = some .readEvents → exec c s = exec .readEventsCommit s))) ∧
    (s.port.phase = .filler → s.port.held = false → bytes = [] →
      exec c s = .next { s with port := { s.port with shifted := s.port.shifted ++ [0] } }) ∧
    (s.port.phase ≠ .deselected → s.port.held = false → s.pins.selLow = true → s.pins.resetLow = false → bytes = [] →
      (s.port.phase = .answer → s.port.answered < s.port.answer.length) →
      ∃ u b, exec c s = .next u ∧ s.sdo = some b ∧ u.port.shifted.getLast? = some b)

/-- R162, R101, R117, R186, R187: READ_STATUS answers DONE and the 13 bytes of its record, READ_STREAM the 23 bytes and
READ_TAP the 12 bytes of theirs, for a stream or a tap in every state; nothing but the port changes.  A PULL that is taken
answers DONE and 2 + L bytes, and one with L = 0 commits at its second response byte. -/
def Obligations.StatusStreamAndTapRecords : Prop :=
  (∀ (s : State) (n : StreamNo), TakesRequests s →
      (∃ r : List Byte, exec (.readStatus [0]) s = .next { s with port := answeredPort s 64 0 [] (1 :: r) } ∧
        r = [(match s.station.state with
            | .initialising => 0 | .offline => 1 | .listening => 2 | .active => 3 | .muted => 4 | .leaving => 5),
          BitVec.ofNat 8 s.setup.address, BitVec.ofNat 8 s.timer.markSource,
          BitVec.ofNat 8 ((if s.station.startedTrunk then 1 else 0) + (if s.timer.lineDominant then 2 else 0)),
          s.timer.cycleCounter.extractLsb' 8 8, s.timer.cycleCounter.extractLsb' 0 8,
          BitVec.ofNat 8 (s.station.window.count true), BitVec.ofNat 8 s.station.muteRemaining,
          BitVec.ofNat 8 s.freeBuffers, s.line.rxErrors.extractLsb' 8 8, s.line.rxErrors.extractLsb' 0 8,
          BitVec.ofNat 8 (s.sumStreams fun st => SlotSet.card st.held),
          BitVec.ofNat 8 (s.sumStreams fun st => SlotSet.card st.pending)]) ∧
      (∃ r : List Byte, exec (.readStream [1, byteOf n]) s =
          .next { s with port := answeredPort s 65 1 [byteOf n] (1 :: r) } ∧
        r = [(match s.streams[n].state with
            | .closed => 0 | .claiming => 1 | .degraded => 2 | .opened => 3 | .releasing => 4),
          BitVec.ofNat 8 ((if s.streams[n].suspended then 1 else 0) + (match s.streams[n].inFlight with
            | none => 0 | some f => if f.discard then 6 else 2)),
          BitVec.ofNat 8 s.streams[n].wanted] ++
          [s.streams[n].held.extractLsb' 24 8, s.streams[n].held.extractLsb' 16 8, s.streams[n].held.extractLsb' 8 8,
            s.streams[n].held.extractLsb' 0 8] ++
          [s.streams[n].pending.extractLsb' 24 8, s.streams[n].pending.extractLsb' 16 8,
            s.streams[n].pending.extractLsb' 8 8, s.streams[n].pending.extractLsb' 0 8] ++
          [BitVec.ofNat 8 s.streams[n].queue.length, s.streams[n].nextSeq, BitVec.ofNat 8 s.streams[n].closeCount,
            s.streams[n].sent.extractLsb' 8 8, s.streams[n].sent.extractLsb' 0 8,
            s.streams[n].requeued.extractLsb' 8 8, s.streams[n].requeued.extractLsb' 0 8,
            s.streams[n].lost.extractLsb' 8 8, s.streams[n].lost.extractLsb' 0 8,
            BitVec.ofNat 8 s.streams[n].attempts, BitVec.ofNat 8 s.streams[n].backoff, BitVec.ofNat 8 s.streams[n].stall])) ∧
  (∀ (s : State) (t : TapNo), TakesRequests s →
      exec (.readTap [1, byteOf t]) s = .next { s with port := answeredPort s 66 1 [byteOf t] [1,
        (match s.taps[t].state with | .off => 0 | .waiting => 1 | .live => 2 | .stale => 3),
        BitVec.ofNat 8 s.taps[t].source, BitVec.ofNat 8 s.taps[t].sourceStream,
        (match s.taps[t].policy with | .keepOldest => 0 | .keepNewest => 1),
        BitVec.ofNat 8 s.taps[t].queue.length, s.taps[t].expected,
        s.taps[t].gaps.extractLsb' 8 8, s.taps[t].gaps.extractLsb' 0 8,
        s.taps[t].fullDrops.extractLsb' 8 8, s.taps[t].fullDrops.extractLsb' 0 8,
        s.taps[t].noBufferDrops.extractLsb' 8 8, s.taps[t].noBufferDrops.extractLsb' 0 8] } ∧
      ∀ (f : RxFrame) (rest : List RxFrame), s.taps[t].state ≠ .off → s.taps[t].queue = f :: rest →
        (∃ u, exec (.pull [1, byteOf t]) s = .next u ∧
          u.port.answer = 1 :: BitVec.ofNat 8 f.payload.length :: f.seq :: f.payload) ∧
        (f.payload = [] → ∀ x y z : Byte, ∃ u, exec (.pull [1, byteOf t, x, y]) s = .next u ∧
          u.port.owes = some (.pull t) ∧ exec (.pull [1, byteOf t, x, y, z]) s = exec .pullCommit u))

/-- R47, R188: READ_MAP answers DONE and 64 bytes, two for each entry in slot order: the state in bits 7 and 6 and the owner
below, then bit 7 at 0, the stream in bits 6 to 4 and the count in bits 3 to 0.  Owners are below 64 and counts below 16 in
every state that a run reaches: EntriesInRange (R20), which every step keeps (StepsKeepRanges). -/
def Obligations.MapRecord : Prop :=
  ∀ s : State, TakesRequests s →
    (∀ k : Slot, (mapItems s.map[k].state).2.1 < 64 ∧ (mapItems s.map[k].state).2.2.2 < 16) →
    ∃ r : List Byte, exec (.readMap [0]) s = .next { s with port := answeredPort s 67 0 [] (1 :: r) } ∧
      r.length = 64 ∧
      ∀ k : Slot, ∃ x y : Byte, r[2 * k.val]? = some x ∧ r[2 * k.val + 1]? = some y ∧
        (x.extractLsb' 6 2).toNat = (mapItems s.map[k].state).1 ∧
        (x.extractLsb' 0 6).toNat = (mapItems s.map[k].state).2.1 ∧
        y.getLsbD 7 = false ∧
        (y.extractLsb' 4 3).toNat = (mapItems s.map[k].state).2.2.1 ∧
        (y.extractLsb' 0 4).toNat = (mapItems s.map[k].state).2.2.2

/-! ### Events and ATTN -/

/-- R167, R189: READ_EVENTS answers DONE and 12 bytes: each flag at its place, the unused bits 0, and the enables; every set
flag, and no other, carries the reported mark; no flag, enable or ATTN changes. -/
def Obligations.ReadEventsSnapshot : Prop :=
  ∀ s : State, TakesRequests s →
    ∃ (r : List Byte) (marks : BitVec 66),
      exec (.readEvents [0]) s = .next { s with
        latch := { s.latch with reported := marks }
        port := { answeredPort s 68 0 [] (1 :: r) with owes := some .readEvents } } ∧
      r.length = 12 ∧
      (∀ f : Flag, marks.getLsbD f.index = flagSet s f) ∧
      (∀ f : Flag, ∃ b : Byte, r[(eventPlace f).1]? = some b ∧ b.getLsbD (eventPlace f).2 = flagSet s f) ∧
      (∃ b : Byte, r[0]? = some b ∧ b.extractLsb' 6 2 = 0) ∧
      (∀ i, i = 4 ∨ i = 6 ∨ i = 8 → ∃ b : Byte, r[i]? = some b ∧ b.extractLsb' 4 4 = 0) ∧
      (∃ high low : Byte, r[10]? = some high ∧ r[11]? = some low ∧ high.extractLsb' 4 4 = 0 ∧
        (high ++ low).truncate 12 = s.latch.enables)

/-- R169, R176: the commit of a READ_EVENTS clears exactly the flags that still carry the reported mark, removes the marks,
keeps the enables, and judges ATTN again; the rest of the answer is then out, and filler follows. -/
def Obligations.ReadEventsCommitClears : Prop :=
  ∀ s : State, s.port.owes = some .readEvents →
    ∃ t, exec .readEventsCommit s = .next t ∧
      t = { s with
        latch := t.latch
        port := { s.port with
          phase := .filler, answered := s.port.answer.length, owes := none
          shifted := s.port.shifted ++ s.port.answer.drop s.port.answered } } ∧
      (∀ f, flagSet t f = (flagSet s f && !flagMarked s f)) ∧ (∀ f, flagMarked t f = false) ∧
      t.latch.enables = s.latch.enables ∧ AttnFollows t

/-- R166, R165, R189: SET_ENABLES with the unused bits 0 writes all twelve enables at once and judges ATTN again; with an
unused bit set it is answered BAD_ARGUMENT. -/
def Obligations.SetEnablesWritesAll : Prop :=
  ∀ (s : State) (high low : Byte), TakesRequests s →
    (high.toNat < 16 →
      ∃ t, exec (.setEnables [2, high, low]) s = .next t ∧
        t = { s with latch := t.latch, port := answeredPort s 80 2 [high, low] [1] } ∧
        t.latch.flags = s.latch.flags ∧ t.latch.reported = s.latch.reported ∧
        t.latch.enables.toNat = 256 * high.toNat + low.toNat ∧ AttnFollows t) ∧
    (16 ≤ high.toNat → exec (.setEnables [2, high, low]) s = .next (answeredOnly s 80 2 [high, low] 3))

/-- R168, R169: between the taking of a READ_EVENTS and its commit, causes arrive: a flag with a cause is set after the
commit, a flag that was reported and had none is clear, and any other stays as it was. -/
def Obligations.NoCauseIsLost : Prop :=
  ∀ (l : EventLatch) (causes : List (BitVec 66)) (f : Flag),
    let after := ((causes.foldl EventLatch.causes l.report).commit).flags.getLsbD f.index
    after = causes.any fun m => m.getLsbD f.index

/-- R165, R189: ATTN is active exactly when at least one set flag's kind is enabled, each kind at its own bit of the
enables, from READY at bit 0 to STALE at bit 11. -/
def Obligations.AttnMeansEnabledFlag : Prop :=
  ∀ s : State, AttnFollows s →
    (s.latch.attn = true ↔ ∃ f : Flag, flagSet s f = true ∧ s.latch.enables.getLsbD (enableBit f) = true)

/-! ### Reset and initialisation -/

/-- R18, R21, R49, R76, R103, R119, R144, R145, R147, R171, R181: what pin reset leaves, as far as the rules state it, and
that the invariants that every step keeps (the last statements of this file) hold there.  That RESETN has just returned
high with SELN high, and the model's own fields, are log entry 8. -/
def Obligations.ResetState : Prop :=
  let s := State.reset
  s.setup = { address := 0, bitRate := .mbit2, leaseLimit := 4, attemptReload := 8, receiveReserve := 8 } ∧
  s.station.state = .initialising ∧ s.station.window = List.replicate 16 false ∧ s.station.faultMark = false ∧
  s.station.listenCount = 0 ∧ s.station.muteRemaining = 0 ∧ s.station.startedTrunk = false ∧ s.station.initCount = 0 ∧
  s.timer.running = false ∧ s.timer.position = none ∧ s.timer.breakInProgress = false ∧ s.timer.markTimer = .disarmed ∧
  s.timer.markOwed = false ∧ s.timer.runStart = none ∧ s.timer.breakStart = none ∧ s.timer.markSource = 0 ∧
  s.timer.loneStart = 0 ∧
  s.timer.lineDominant = false ∧ s.timer.cycleCounter = 0 ∧
  s.line.receiver = false ∧ s.line.transmit = .idle ∧ s.line.segment = .outside ∧ s.line.assembly = none ∧
  s.line.rxErrors = 0 ∧ s.line.txd = .recessive ∧ s.line.dominantRun = 0 ∧ s.line.lostNote = false ∧
  (∀ k : Slot, s.map[k] = { state := .free, heard := false, reached := false }) ∧
  s.ann.queue = [] ∧ s.ann.offer = none ∧
  (∀ n : StreamNo, s.streams[n] =
    { state := .closed, suspended := false, wanted := 0, held := 0, pending := 0, queue := [], inFlight := none,
      nextSeq := 0, closeCount := 0, sent := 0, requeued := 0, lost := 0, attempts := 8, backoff := 0, stall := 0 }) ∧
  (∀ t : TapNo, s.taps[t] =
    { state := .off, source := 0, sourceStream := 0, policy := .keepOldest, queue := [], pullMark := false,
      expected := 0, gaps := 0, fullDrops := 0, noBufferDrops := 0 }) ∧
  s.freeBuffers = 64 ∧ (∀ f, flagSet s f = false ∧ flagMarked s f = false) ∧ s.latch.enables = 0 ∧ s.latch.attn = false ∧
  s.port.phase = .deselected ∧ s.port.pendingReset = false ∧ s.pending = [] ∧
  AttnFollows s ∧ MapAndStreamsAgree s ∧ BuffersAddUp s ∧ QueuesFit s ∧ TapsDiffer s ∧ StationInRange s ∧ EntriesInRange s ∧
  StreamsInRange s

/-- R147, R149, R172, R181: RESETN low brings every block to its values after reset in every state, and SDO is
high-impedance; RESETN high holds the port while SELN is low and starts the initialisation period; its end makes the
station OFFLINE with READY. -/
def Obligations.PinResetAndInitialisation : Prop :=
  (∀ s : State, ∃ t, exec .pinReset s = .next t ∧ t.sdo = none ∧
    t = { State.reset with
      pins := { resetLow := true, selLow := s.pins.selLow }, choices := s.choices, pending := s.pending }) ∧
  (∀ s : State, s.pins.resetLow = true → exec .pinResetRelease s = .next { s with
    pins := { s.pins with resetLow := false }, port := { s.port with held := s.pins.selLow }
    station := { s.station with initCount := 0 } }) ∧
  (∀ s : State, s.station.state = .initialising → s.pins.resetLow = false →
    ∃ t, exec .initialisationEnd s = .next t ∧
      t = { s with station := { s.station with state := .offline, initCount := 512 }, latch := t.latch } ∧
      Latches s t (oneFlag .ready))

/-! ### Breaks and boundaries -/

/-- R3, R6, R7, R130, R133, R136, R138, R139: the recognition of a break settles the mark source, ends the segment, cuts the
current attempt and makes a frame in progress a receive error; R4: the 15th bit time shows line dominant.  That a char0
is part of the break exactly where it is not complete is log entry 30; that a mark that is owed for the own break stays
owed, also where the mark timer waits on that run, is log entry 34. -/
def Obligations.BreakRecognition : Prop :=
  (∀ (s : State) (rx : Option Stretch), s.timer.running = true → s.timer.breakInProgress = false →
    ∃ t, ∃ err : Bool, exec (.breakRecognised rx) s = .next t ∧ (err = true ↔ Overrun s rx) ∧
      t = { s with
        timer := { s.timer with
          breakInProgress := true, markTimer := .disarmed, awaitingRun := false, runStart := none, loneStart := 0
          markSettled := true
          markSource := if s.timer.markSettled = true ∧ ¬ (err = true ∧ s.line.segment = .markTail)
            then s.timer.markSource else 0 }
        line := { s.line with
          dominantRun := 12, segment := .outside, condition := .opened, assembly := none, lostNote := false
          rxErrors := errorCount err s.line.rxErrors, transmit := t.line.transmit, txd := t.line.txd }
        ann := t.ann, streams := t.streams, freeBuffers := t.freeBuffers, latch := t.latch } ∧
      Latches s t (errorFlag err) ∧
      (∀ a, cutAttempt s.line.transmit = some a → AttemptFails none a s t) ∧
      (cutAttempt s.line.transmit = none →
        t.line.transmit = s.line.transmit ∧ t.line.txd = s.line.txd ∧ t.ann = s.ann ∧ t.streams = s.streams ∧
        t.freeBuffers = s.freeBuffers)) ∧
  (∀ s : State, s.timer.running = true → s.timer.breakInProgress = true → exec .lineDominant s = .next { s with
    timer := { s.timer with lineDominant := true }, line := { s.line with dominantRun := 15 } })

/-- R5, R8, R10, R14, R17, R134, R137: a boundary, by whatever command it is named (log entry 4), opens the new cycle in the
cycle timer and the line unit; a leave that it ends stops both (R160).  That the receiver stays ON at entry to MUTED is log
entry 10, that a break still driven at the boundary is over is log entry 12, and the segment, the condition and the lost
note of an OFFLINE station are log entry 29. -/
def Obligations.BoundaryOpensCycle : Prop :=
  ∀ (s : State) (kind : BoundaryKind) (c : Instr), AttemptsAgree s → TakesBoundary s kind c →
    ∃ t, exec c s = .next t ∧
      (¬ Leaves s t →
        t.timer = { s.timer with
          position := some 0, breakInProgress := false, awaitingRun := false, runStart := none, markOwed := false, breakStart := none
          loneStart := 0
          markTimer := .armed (10 * (1335 + s.setup.address)), lineDominant := false
          cycleCounter := s.timer.cycleCounter + 1
          markSource := if kind = .heard then s.timer.markSource else 0, markSettled := decide (kind = .synthesized) } ∧
        t.line = { s.line with
          dominantRun := 0, segment := .markTail, condition := .opened, assembly := none, txd := .recessive
          rxErrors := errorCount (cutShort s (boundaryReception c)) s.line.rxErrors
          transmit := if s.timer.markOwed = true ∧ t.mayDrive = true then .waiting (.mark s.setup.address) else .idle }) ∧
      (Leaves s t →
        t.timer = { s.timer with
          running := false, position := none, breakInProgress := false, markTimer := .disarmed, awaitingRun := false
          runStart := none
          markOwed := false, breakStart := none, loneStart := 0, lineDominant := false, markSettled := true
          cycleCounter := s.timer.cycleCounter + 1 } ∧
        t.line = { s.line with
          receiver := false, dominantRun := 0, segment := .outside, condition := .opened, assembly := none
          transmit := .idle, txd := .recessive })

/-- R25, R26, R27, R42, R69, R155, R160: a boundary ages every entry and clears both marks; the own entries of a stream at
the close limit, and all own entries at entry to MUTED, are detached; a leave that it ends clears the map.  Nine of the
commands are read as whole boundaries by log entry 4. -/
def Obligations.BoundaryAgesMap : Prop :=
  ∀ (s : State) (kind : BoundaryKind) (c : Instr), TakesBoundary s kind c →
    ∃ t, exec c s = .next t ∧ (Leaves s t → MapClear t.map) ∧
      (¬ Leaves s t → ∀ k : Slot,
        let aged := agedState s.setup.leaseLimit s.map[k]
        t.map[k] = {
          state :=
            if ownedBy s.setup.address (fun n => decide (Mutes s t ∨ ReachesCloseLimit s n)) aged
            then detachedState aged else aged
          heard := false, reached := false })

/-- R28, R69, R85 to R90, R97: what a boundary does to a stream's lists, state and lost count; nothing else of a stream but
its counts (the next statement) changes, except that a leave that ends discards the queues.  Nine of the commands are
read as whole boundaries by log entry 4; that a frame still in flight goes with the leave is log entry 18. -/
def Obligations.BoundaryMovesSlots : Prop :=
  ∀ (s : State) (kind : BoundaryKind) (c : Instr), TakesBoundary s kind c →
    ∃ t, exec c s = .next t ∧
      t.freeBuffers = s.freeBuffers + (if Leaves s t then s.sumStreams Stream.buffers else 0) ∧
      ∀ n : StreamNo,
        t.streams[n] = { s.streams[n] with
          state := t.streams[n].state, held := t.streams[n].held, pending := t.streams[n].pending
          lost := t.streams[n].lost, closeCount := t.streams[n].closeCount, attempts := t.streams[n].attempts
          backoff := t.streams[n].backoff, stall := t.streams[n].stall
          queue := if Leaves s t then [] else s.streams[n].queue
          inFlight := if Leaves s t then none else s.streams[n].inFlight } ∧
        ∃ lapsed confirmed : SlotSet,
          (∀ k, SlotSet.has lapsed k = true ↔ LapsesFor s n k) ∧
          (∀ k, SlotSet.has confirmed k = true ↔ ConfirmsFor s n k) ∧
          t.streams[n].lost = Counter.raise s.streams[n].lost (SlotSet.card lapsed) ∧
          (¬ Leaves s t → ¬ Mutes s t → ¬ ReachesCloseLimit s n →
            t.streams[n].held = (s.streams[n].held ||| confirmed) &&& ~~~lapsed ∧
            t.streams[n].pending = s.streams[n].pending &&& ~~~(confirmed ||| lapsed) ∧
            t.streams[n].state =
              if StreamIsOpen s.streams[n] ∧ (confirmed ≠ 0 ∨ lapsed ≠ 0)
              then derivedState t.streams[n].held s.streams[n].wanted else s.streams[n].state) ∧
          (Leaves s t ∨ ReachesCloseLimit s n →
            t.streams[n].state = .closed ∧ t.streams[n].held = 0 ∧ t.streams[n].pending = 0) ∧
          (Mutes s t →
            t.streams[n].held = 0 ∧ t.streams[n].pending = 0 ∧
            t.streams[n].state = if StreamIsOpen s.streams[n] then .claiming else .closed)

/-- R66, R73, R88: a boundary counts the close count of a RELEASING stream, the backoff of a stream that is not CLOSED, with
the attempt reload at its end, and the stall of a stream that waits in CLAIMING in ACTIVE.  Nine of the commands are read
as whole boundaries by log entry 4; that the backoff of a stream that closes at the boundary counts too is log entry 11. -/
def Obligations.BoundaryCountsWaits : Prop :=
  ∀ (s : State) (kind : BoundaryKind) (c : Instr), TakesBoundary s kind c →
    ∃ t, exec c s = .next t ∧ ∀ n : StreamNo,
      t.streams[n].closeCount =
        (if s.streams[n].state = .releasing then s.streams[n].closeCount + 1 else s.streams[n].closeCount) ∧
      t.streams[n].backoff =
        (if s.streams[n].state = .closed then s.streams[n].backoff else s.streams[n].backoff - 1) ∧
      t.streams[n].attempts =
        (if s.streams[n].state ≠ .closed ∧ s.streams[n].backoff = 1 then s.setup.attemptReload
         else s.streams[n].attempts) ∧
      t.streams[n].stall =
        (if s.station.state = .active ∧ s.streams[n].state = .claiming ∧ s.streams[n].pending = 0 ∧
            s.streams[n].stall < 64
         then s.streams[n].stall + 1 else s.streams[n].stall)

/-- R51, R69, R72, R151, R153 to R156, R158, R160: station control and the announcement queue at a boundary.  Nine of the
commands are read as whole boundaries by log entry 4; that the verdict is taken before a leave that the same boundary
completes is log entry 24. -/
def Obligations.BoundaryMovesStation : Prop :=
  ∀ (s : State) (kind : BoundaryKind) (c : Instr), TakesBoundary s kind c →
    ∃ t, exec c s = .next t ∧
      t.station = (match s.station.state with
        | .listening => { s.station with
            faultMark := false
            listenCount := s.station.listenCount + 1
            state := if 2 ≤ s.station.listenCount then .active else .listening }
        | .active =>
          if 8 ≤ nextFaulty s then
            { s.station with state := .muted, window := nextWindow s, faultMark := false, muteRemaining := 32 }
          else { s.station with window := nextWindow s, faultMark := false }
        | .leaving =>
          if 8 ≤ nextFaulty s ∨ ∀ n : StreamNo, s.streams[n].state = .closed ∨ ReachesCloseLimit s n then
            { s.station with
              state := .offline, window := nextWindow s, faultMark := false, muteRemaining := 0, listenCount := 0 }
          else { s.station with window := nextWindow s, faultMark := false }
        | .muted =>
          if s.station.muteRemaining ≤ 1 then
            { s.station with
              state := .listening, window := List.replicate 16 false, faultMark := false, listenCount := 0
              muteRemaining := 0, startedTrunk := false }
          else { s.station with faultMark := false, muteRemaining := s.station.muteRemaining - 1 }
        | _ => s.station) ∧
      t.ann = (if Leaves s t ∨ Mutes s t then .reset
        else { s.ann with
          queue := s.ann.queue.filter fun r =>
            match releaseOf r with
            | some (n, _) => !decide (ReachesCloseLimit s n)
            | none => true }) ∧
      t.setup = s.setup ∧ t.port = s.port ∧ t.pins = s.pins

/-- R41, R74, R98, R114, R115, R142, R151, R155, R158: the events that a boundary latches, no more and no fewer, and what it
does to the taps.  Nine of the commands are read as whole boundaries by log entry 4; that STALE is latched also where the
boundary ends a leave, which then makes the tap WAITING, is log entry 33. -/
def Obligations.BoundaryLatchesEvents : Prop :=
  ∀ (s : State) (kind : BoundaryKind) (c : Instr), TakesBoundary s kind c →
    ∃ t causes, exec c s = .next t ∧ Latches s t causes ∧
      (∀ f, causes f = true ↔ match f with
        | .joined => s.station.state = .listening ∧ t.station.state = .active
        | .left => Leaves s t
        | .muted => Mutes s t
        | .rxError => cutShort s (boundaryReception c) = true
        | .change n => s.streams[n].visible ≠ t.streams[n].visible
        | .stalled n => Stalls s n
        | .stale u => s.taps[u].state = .live ∧ GoneAtBoundary s (s.taps[u].source, s.taps[u].sourceStream)
        | _ => False) ∧
      ∀ u : TapNo, t.taps[u] = { s.taps[u] with
        state :=
          if s.taps[u].state = .off then .off
          else if Leaves s t then .waiting
          else if causes (.stale u) = true then .stale else s.taps[u].state }

/-- A command that names a boundary by something that it brings about changes nothing where there is no such boundary to be
taken: the model's reading of these commands (log entries 4 and 7). -/
def Obligations.NamedBoundariesNeedTheirCause : Prop :=
  ∀ (s : State) (c : Instr), NamesBoundary c → (∀ kind, ¬ TakesBoundary s kind c) → exec c s = .next s

/-- R8, R9, R12, R13, R15, R16, R152: the mark timer's expiry outside MUTED, and the lone start, 5600 character times after
the boundary where the position is synchronised.  On a recessive line the expiry
does nothing more in LISTENING and starts a break with mark owed in ACTIVE and LEAVING, and the lone start makes the
station ACTIVE and starts a break; on a dominant line either waits for the run.  That a break is handed over only to an
idle transmitter is log entry 13; that an expiry on the run of the own lone-start break leaves the mark owed is log entry
34. -/
def Obligations.TimersExpire : Prop :=
  (∀ (s : State) (run : Nat) (rx : Option Stretch),
    s.timer.running = true → s.timer.breakInProgress = false → s.timer.markTimer ≠ .disarmed →
    let expired := { s.timer with
      markTimer := .disarmed
      position := match s.timer.markTimer with
        | .armed expiry => s.timer.position.map (max expiry)
        | _ => s.timer.position }
    (run = 0 → s.station.state = .listening → exec (.markTimerExpiry run rx) s = .next { s with
      timer := expired, line := { s.line with dominantRun := 0 } }) ∧
    (run = 0 → s.mayDrive = true → s.line.transmit = .idle → exec (.markTimerExpiry run rx) s = .next { s with
      timer := { expired with markOwed := true, breakStart := expired.position }
      line := { s.line with dominantRun := 0, transmit := .driving .brk, txd := .dominant } }) ∧
    (run = 0 → s.mayDrive = true → s.line.transmit ≠ .idle → exec (.markTimerExpiry run rx) s = .next { s with
      timer := expired, line := { s.line with dominantRun := 0 } }) ∧
    (1 ≤ run → exec (.markTimerExpiry run rx) s = .next { s with
      timer := { expired with awaitingRun := true, runStart := expired.position.map (· - run) }
      line := { s.line with dominantRun := run } })) ∧
  (∀ (s : State) (run : Nat), s.timer.running = true → s.timer.breakInProgress = false →
    s.station.state = .listening →
    let position := s.timer.position.map (max 56000)
    (run = 0 → s.line.transmit = .idle → ∃ t, exec (.loneStart run) s = .next t ∧
      t = { s with
        station := { s.station with state := .active, startedTrunk := true }
        timer := { s.timer with position := position, loneStart := 0, markOwed := true, breakStart := position }
        line := { s.line with dominantRun := 0, transmit := .driving .brk, txd := .dominant }
        latch := t.latch } ∧
      Latches s t (oneFlag .joined)) ∧
    (1 ≤ run → exec (.loneStart run) s = .next { s with
      timer := { s.timer with position := position, loneStart := 5600, runStart := position.map (· - run) }
      line := { s.line with dominantRun := run } }))

/-- R12, R16, R129, R130, R142: a dominant run that ends short of a break: a FRAMING error where it is one, the mark timer
armed again where it waited on the run, and the lone start where it waited.  The run's end is counted from where the run
began, which is kept (log entry 19).  A SETTLING attempt has its own statement. -/
def Obligations.ShortRunEnds : Prop :=
  ∀ (s : State) (run : Nat) (stopBit : Bool), AttemptsAgree s → s.line.receiver = true →
    s.timer.breakInProgress = false → 1 ≤ run → run < 12 → (∀ a p, s.line.transmit ≠ .settling a p) →
    let err := framingCounts s run stopBit
    let lone := s.station.state = .listening ∧ s.timer.loneStart = 5600
    let settled := if err = true ∧ s.line.segment = .markTail then { s.timer with markSource := 0, markSettled := true }
      else s.timer
    let waited := s.timer.awaitingRun = true ∨ lone
    let ended := match s.timer.runStart with
      | some start => if waited then s.timer.position.map (max (start + run)) else s.timer.position
      | none => s.timer.position
    let armed := { settled with
      awaitingRun := false, position := ended, runStart := if waited then none else s.timer.runStart
      markTimer := if s.timer.awaitingRun = false then s.timer.markTimer
        else match ended with
          | some p => .armed (p + 10 * (4 + s.setup.address))
          | none => .armedCount (4 + s.setup.address) }
    ∃ t, exec (.shortRunEnd run stopBit) s = .next t ∧
      t = { s with
        station := if lone then { s.station with state := .active, startedTrunk := true } else s.station
        timer := if lone then { armed with loneStart := 0, markOwed := true, breakStart := ended } else armed
        line := { s.line with
          dominantRun := 0, rxErrors := errorCount err s.line.rxErrors
          condition := if err = true then .discarding else s.line.condition
          assembly := if err = true then none else s.line.assembly
          transmit := if lone then .driving .brk else s.line.transmit
          txd := if lone then .dominant else s.line.txd }
        latch := t.latch } ∧
      Latches s t (fun f => errorFlag err f || (decide lone && f == .joined))

/-- R62, R63, R95, R129, R132, R133, R136, R143, R153: the end of a run short of a break, the next segment start, the
delivery of a frame or announcement of another station, and the report of a FAULT that stood as provisional, first give a
SETTLING attempt its provisional outcome, and are then what they are for a station without an attempt.  That TRANSMIT_FAULT
is that report, made at the end of the run, is log entry 25. -/
def Obligations.SettlingAttemptEnds : Prop :=
  ∀ (s : State) (a : Attempt) (p : Provisional) (c : Instr), s.line.transmit = .settling a p → s.mayDrive = true →
    ((∃ run stopBit, c = .shortRunEnd run stopBit ∧ s.line.receiver = true ∧ s.timer.breakInProgress = false ∧
        1 ≤ run ∧ run < 12) ∨
      (∃ k rx, c = .slotStart k rx ∧ StartReported s (slotStartAt k)) ∨
      (∃ w rx, c = .windowStart w rx ∧ StartReported s (windowStartAt w)) ∨
      (∃ rx, c = .gapStart rx ∧ StartReported s gapStartAt) ∨ (∃ bit, c = .transmitFault bit ∧ p = .fault) ∨
      (s.line.receiver = true ∧
        ((∃ offset sender, c = .markReceived offset sender ∧ s.line.segment = .markTail) ∨
          (∃ offset f k, c = .slotFrameReceived offset f ∧ s.line.segment = .slot k) ∨
          (∃ w offset sender n, s.line.segment = .window w ∧
            ((∃ set, c = .claimReceived offset sender n set ∨ c = .releaseReceived offset sender n set) ∨
              ∃ k aux, c = .objectReceived offset sender n k aux))))) →
    ∃ u, AttemptFails (some p) a s u ∧
      u = { s with
        station := u.station, ann := u.ann, streams := u.streams, freeBuffers := u.freeBuffers
        line := { s.line with
          transmit := .idle, txd := .recessive
          dominantRun := match c with | .transmitFault _ => 0 | _ => s.line.dominantRun
          lostNote := if p = .lost ∧ isSlotFrame a = true then true else s.line.lostNote } } ∧
      exec c s = exec c u

/-! ### Segments and what is sent in them -/

/-- R2, R23, R45, R91, R92, R93, R136, R137, R139: the start of slot k marks its entry reached, and hands over the DATA or
KEEP frame of the stream that holds it. -/
def Obligations.SlotStartSupplies : Prop :=
  ∀ (s : State) (k : Slot) (rx : Option Stretch), StartReported s (slotStartAt k) → s.line.transmit = .idle →
    ∃ t, exec (.slotStart k rx) s = .next t ∧ SegmentOpens (.slot k) (slotStartAt k) rx s t ∧
      t = { s with
        timer := t.timer, line := t.line, map := s.map.set k { s.map[k] with reached := true }, streams := t.streams
        latch := t.latch } ∧
      Latches s t (errorFlag (cutShort s rx)) ∧ t.line.lostNote = false ∧
      (s.mayDrive = false ∨ s.map[k].state.ownHeld s.setup.address = none →
        t.line.transmit = .idle ∧ t.line.txd = s.line.txd ∧ t.streams = s.streams) ∧
      ∀ n : StreamNo, s.mayDrive = true → s.map[k].state.ownHeld s.setup.address = some n →
        s.streams[n].state ≠ .closed →
        let frame (body : FrameBody) : Transmit :=
          .waiting (.slotFrame k { sender := s.setup.address, stream := n, seq := s.streams[n].nextSeq, body })
        t.line.txd = .recessive ∧
        (∀ payload rest, StreamIsOpen s.streams[n] → s.streams[n].suspended = false →
          s.streams[n].queue = payload :: rest →
          t.line.transmit = frame (.data payload) ∧
          t.streams = s.streams.set n { s.streams[n] with
            queue := rest, inFlight := some { payload := payload, discard := false } }) ∧
        (¬ StreamIsOpen s.streams[n] ∨ s.streams[n].suspended = true ∨ s.streams[n].queue = [] →
          t.line.transmit = frame .keep ∧ t.streams = s.streams)

/-- R2, R137, R139: the start of the gap ends the last window; nothing is sent in the gap. -/
def Obligations.GapStartEndsWindow : Prop :=
  ∀ (s : State) (rx : Option Stretch), StartReported s gapStartAt → (∀ a p, s.line.transmit ≠ .settling a p) →
    ∃ t, exec (.gapStart rx) s = .next t ∧ SegmentOpens .gap gapStartAt rx s t ∧
      t = { s with timer := t.timer, line := t.line, latch := t.latch } ∧
      t.line.transmit = s.line.transmit ∧ t.line.txd = s.line.txd ∧ t.line.lostNote = s.line.lostNote ∧
      Latches s t (errorFlag (cutShort s rx))

/-- R52, R53, R54, R57, R68, R77, R87: at a window start every record of the queue is checked: an OBJECT of a slot that is
no longer own goes, a RELEASE is trimmed, and the stream of one that is empty becomes CLOSED.  Then the oldest OBJECT that
is left is offered, or, where there is none, the oldest RELEASE.  That the records behind the first survivor are checked
at the same window start is log entry 31. -/
def Obligations.WindowOffersRecord : Prop :=
  ∀ (s : State) (w : WindowNo) (rx : Option Stretch), WindowAsks s w →
    let checked := s.ann.queue.filterMap (livePart s)
    let offers (offer : Announcement) : Prop :=
      ∃ t, exec (.windowStart w rx) s = .next t ∧ SegmentOpens (.window w) (windowStartAt w) rx s t ∧
        t = { s with
          timer := t.timer, line := t.line, latch := t.latch, streams := t.streams
          ann := { queue := checked, offer := some offer } } ∧
        ClosesEmptied s t ∧ OfferMade w offer t ∧ t.line.lostNote = false ∧
        Latches s t (fun f => errorFlag (cutShort s rx) f || changeFlags s t f)
    (∀ before k after n, checked = before ++ Record.object k :: after → (∀ j, Record.object j ∉ before) →
      ownStreamAt s k = some n →
      offers { kind := .object, sender := s.setup.address, stream := n, slots := SlotSet.only k,
               aux := match s.map[k].state with | .pending _ _ c _ => c | _ => 0 }) ∧
    (∀ before n part after, checked = before ++ Record.release n part :: after → (∀ j, Record.object j ∉ checked) →
      (∀ m x, Record.release m x ∉ before) →
      offers { kind := .release, sender := s.setup.address, stream := n, slots := part, aux := 0 })

/-- R52, R54, R55, R56, R57, R87, R158, R160: at a window start with no OBJECT to offer and no RELEASE record that still has
slots, the streams of those records become CLOSED; in ACTIVE the lowest eligible stream claims the lowest FREE slots, or
nothing is offered; in LEAVING nothing is offered, and the leave ends when every stream is CLOSED: the station that has
taken the window start enters OFFLINE.  R52, R136, R137, R139: in LISTENING and MUTED the window starts and nothing is
offered; nor is anything where an attempt is still WAITING or DRIVING (log entry 13). -/
def Obligations.WindowOffersClaim : Prop :=
  (∀ (s : State) (w : WindowNo) (rx : Option Stretch), StartReported s (windowStartAt w) →
    (∀ a p, s.line.transmit ≠ .settling a p) → s.mayDrive = false ∨ s.line.transmit ≠ .idle →
    ∃ t, exec (.windowStart w rx) s = .next t ∧ SegmentOpens (.window w) (windowStartAt w) rx s t ∧
      t = { s with timer := t.timer, line := t.line, latch := t.latch } ∧
      t.line.transmit = s.line.transmit ∧ t.line.txd = s.line.txd ∧ t.line.lostNote = false ∧
      Latches s t (errorFlag (cutShort s rx))) ∧
  ∀ (s : State) (w : WindowNo) (rx : Option Stretch), WindowAsks s w → NoLiveObject s →
    (∀ n set, Record.release n set ∈ s.ann.queue →
      IsPart s n set 0 ∧ s.streams[n].state = .releasing ∧ s.streams[n].held = 0 ∧ s.streams[n].pending = 0) →
    let emptied (n : StreamNo) := n ∈ (s.ann.queue.filterMap releaseOf).map Prod.fst
    ∃ t, exec (.windowStart w rx) s = .next t ∧
      (s.station.state = .active ∨ ¬ (∀ n : StreamNo, s.streams[n].state = .closed ∨ emptied n) →
        SegmentOpens (.window w) (windowStartAt w) rx s t ∧ t.line.lostNote = false ∧
        t = { s with
          timer := t.timer, line := t.line, latch := t.latch, streams := t.streams
          ann := { queue := [], offer := t.ann.offer } } ∧
        (∀ m : StreamNo, t.streams[m] = if emptied m then { s.streams[m] with state := .closed } else s.streams[m]) ∧
        Latches s t (fun f => errorFlag (cutShort s rx) f || changeFlags s t f)) ∧
      (∀ n : StreamNo, s.station.state = .active → Eligible s n → (∀ m : StreamNo, m < n → ¬ Eligible s m) →
        ∃ set, IsClaimSet s n set ∧
          OfferMade w { kind := .claim, sender := s.setup.address, stream := n, slots := set, aux := 0 } t) ∧
      (s.station.state = .active → (∀ n : StreamNo, ¬ Eligible s n) →
        t.line.transmit = .idle ∧ t.ann.offer = s.ann.offer) ∧
      (s.station.state = .leaving → ¬ (∀ n : StreamNo, s.streams[n].state = .closed ∨ emptied n) →
        t.line.transmit = .idle ∧ t.ann.offer = s.ann.offer) ∧
      (s.station.state = .leaving → (∀ n : StreamNo, s.streams[n].state = .closed ∨ emptied n) →
        (∃ u, SegmentOpens (.window w) (windowStartAt w) rx s u ∧
          u = { s with timer := u.timer, line := u.line, latch := u.latch } ∧ EntersOffline u t ∧
          t.line.rxErrors = u.line.rxErrors ∧ t.line.lostNote = false) ∧
        t.port = s.port ∧ t.choices = s.choices ∧ t.pending = s.pending ∧
        Latches s t (fun f => errorFlag (cutShort s rx) f || f == .left || changeFlags s t f))

/-! ### The course and the end of an attempt -/

/-- R127 to R129, R131, R132, R134, R138: an attempt's first bit time, a recessive bit read back dominant, and the end of
the own break.  A dominant run that is on the line at the first bit goes on through the bits that are sent dominant, and
the first bit begins a character where the line is recessive before it.  A frame of another station that has begun in the
segment, or an error in it, stays what it is at the first bit; no whole frame has ended in the segment before it (R138).
That `run` and `rx` show the line before the first bit is log entry 15; that the report of a mismatch at a bit that was
not sent recessive changes nothing is log entry 7; that a mismatch stands at the end of its bit, so that the position is
that of the bit's end, is log entry 9. -/
def Obligations.AttemptCourse : Prop :=
  (∀ (s : State) (a : Attempt) (run : Nat) (rx : Option Stretch), s.line.transmit = .waiting a →
    (s.mayDrive = true → s.line.condition ≠ .ended →
      let opened := s.line.receiver = true ∧ s.line.segment ≠ .outside ∧ s.line.condition = .opened
      let heard := begun rx ≠ none ∧ (opened ∨ s.line.condition = .receiving)
      exec (.attemptStart run rx) s = .next { s with
        timer := { s.timer with position := s.timer.position.map (max a.firstPosition) }
        line := { s.line with
          transmit := .driving a, txd := .dominant, dominantRun := run
          condition := if heard ∨ (opened ∧ run = 0) then .receiving else s.line.condition
          assembly :=
            if heard then begun rx
            else if opened ∧ run = 0 then some { offset := a.firstBit, chars := [] }
            else s.line.assembly } }) ∧
    (s.mayDrive = false → exec (.attemptStart run rx) s = .next { s with
      line := { s.line with transmit := .idle, txd := .recessive, dominantRun := run } })) ∧
  (∀ (s : State) (a : Attempt) (bit : Nat), s.line.transmit = .driving a →
    (a.bits[bit]? = some true →
      let own := ((a.bits.take bit).reverse.takeWhile fun b => !b).length
      exec (.arbitrationMismatch bit) s = .next { s with
        timer := { s.timer with position := s.timer.position.map (max (a.firstPosition + bit + 1)) }
        line := { s.line with
          transmit := .settling a (if bit < 10 then .lost else .fault), txd := .recessive
          dominantRun := (if own = bit then s.line.dominantRun else 0) + own + 1
          assembly := s.line.assembly.map fun r =>
            if r.offset = a.firstBit then { r with chars := a.chars.take (bit / 10) } else r } }) ∧
    (a.bits[bit]? ≠ some true → exec (.arbitrationMismatch bit) s = .next s)) ∧
  (∀ s : State, s.line.transmit = .driving .brk →
    exec .breakAttemptComplete s = .next { s with line := { s.line with
      transmit := .idle, txd := .recessive, dominantRun := max 14 s.line.dominantRun } })

/-- R11, R12, R63, R95, R132, R153: a dominant bit read back recessive ends the attempt FAULT at once; on the own break
before it is recognised, the mark is no longer owed and the mark timer is armed again, from the fault, which lies `bit` bit
times after the break began; a run on which the timer waits has ended with it.  That a FAULT at bit 0, where this bit began
the character, takes the segment back to OPEN is log entry 23.  That a FAULT stands at the start of its bit, so that the timer is armed from there, is log
entry 9, and that the position of the break's start is kept is log entry 19. -/
def Obligations.TransmitFaultEndsAttempt : Prop :=
  ∀ (s : State) (a : Attempt) (bit : Nat), s.line.transmit = .driving a → a.bits[bit]? = some false →
    let fault := match s.timer.breakStart with
      | some start => s.timer.position.map (max (start + bit))
      | none => s.timer.position
    let began := ∃ r, s.line.assembly = some r ∧ r.offset = a.firstBit
    ∃ t, exec (.transmitFault bit) s = .next t ∧ AttemptFails (some .fault) a s t ∧
      t = { s with
        station := t.station, ann := t.ann, streams := t.streams, freeBuffers := t.freeBuffers, line := t.line
        timer := if a ≠ .brk then s.timer
          else if s.timer.breakInProgress = true then { s.timer with markOwed := false }
          else { s.timer with
            markOwed := false, awaitingRun := false, runStart := none, position := fault
            markTimer := match fault with
              | some p => .armed (p + 10 * (4 + s.setup.address))
              | none => .armedCount (4 + s.setup.address) } } ∧
      t.line = { s.line with
        transmit := .idle, txd := .recessive, dominantRun := 0
        condition := if a ≠ .brk ∧ bit = 0 ∧ began ∧ s.line.condition = .receiving then .opened else s.line.condition
        assembly :=
          if a = .brk then s.line.assembly
          else if bit = 0 then (if began ∧ s.line.condition = .receiving then none else s.line.assembly)
          else s.line.assembly.map fun r =>
            if r.offset = a.firstBit then { r with chars := a.chars.take (bit / 10) } else r }

/-- R31, R93, R94, R100, R108 to R113, R135: an own DATA frame that ends COMPLETE advances its stream and returns its
buffer, an own KEEP frame changes no stream, and both reach the slot map and the tap that follows the own stream.  Which
comes first when no buffer is free is open (log entry 1): the statement holds for either. -/
def Obligations.SlotFrameCompletes : Prop :=
  ∀ (s : State) (k : Slot) (f : SlotFrame), TapsDiffer s → s.line.transmit = .driving (.slotFrame k f) →
    let heard : Entry := { s.map[k] with
      heard := true
      state := match s.map[k].state with | .held o n _ d => .held o n 0 d | e => e }
    let follows (u : TapNo) := TapFollows s u f.sender f.stream
    (∀ payload g, f.body = .data payload → s.streams[f.stream].inFlight = some g →
      ∃ t free, exec .attemptComplete s = .next t ∧ (0 < s.freeBuffers → free = s.freeBuffers + 1) ∧
        (s.freeBuffers = 0 → free = 0 ∨ free = 1) ∧
        t = { s with
          line := completedLine s.line, map := s.map.set k heard, taps := t.taps, latch := t.latch
          streams := s.streams.set f.stream { s.streams[f.stream] with
            inFlight := none, nextSeq := s.streams[f.stream].nextSeq + 1
            sent := Counter.raise s.streams[f.stream].sent 1 }
          freeBuffers := t.freeBuffers, choices := if s.freeBuffers = 0 then s.choices + 1 else s.choices } ∧
        (∀ u : TapNo, t.taps[u] = if follows u then tapAfter free f s.taps[u] else s.taps[u]) ∧
        (∀ u : TapNo, follows u → t.freeBuffers = s.freeBuffers + 1 - (if tapTakes free f s.taps[u] then 1 else 0)) ∧
        ((∀ u : TapNo, ¬ follows u) → t.freeBuffers = s.freeBuffers + 1) ∧
        Latches s t (fun g => match g with
          | .drained n => n == f.stream && s.streams[f.stream].queue.isEmpty
          | .data u => decide (follows u) && tapFills free f s.taps[u]
          | .loss u => decide (follows u) && tapLoses free f s.taps[u]
          | _ => false)) ∧
    (f.body = .keep → ∃ t, exec .attemptComplete s = .next t ∧
      t = { s with line := completedLine s.line, map := s.map.set k heard, taps := t.taps, latch := t.latch } ∧
      (∀ u : TapNo, t.taps[u] = if follows u then tapAccounted f s.taps[u] else s.taps[u]) ∧
      Latches s t (fun g => match g with
        | .loss u => decide (follows u) && tapGap f s.taps[u]
        | _ => false))

/-- R36, R48, R59, R77, R85, R135: an own CLAIM that ends COMPLETE makes the FREE slots of its set PENDING and the stream's,
and reloads the stream's attempts; the slots join the RELEASE record of a RELEASING stream. -/
def Obligations.ClaimCompletes : Prop :=
  ∀ (s : State) (w : WindowNo) (a : Announcement), s.line.transmit = .driving (.announcement w a) → a.kind = .claim →
    ∃ t made, exec .attemptComplete s = .next t ∧
      (∀ k : Slot, SlotSet.has made k = (SlotSet.has a.slots k && s.map[k].state == .free)) ∧
      t = { s with
        line := completedLine s.line, map := t.map, latch := t.latch
        streams := s.streams.set a.stream { s.streams[a.stream] with
          pending := s.streams[a.stream].pending ||| made, attempts := s.setup.attemptReload, stall := 0
          state := if StreamIsOpen s.streams[a.stream]
            then derivedState s.streams[a.stream].held s.streams[a.stream].wanted else s.streams[a.stream].state }
        ann := {
          offer := none
          queue := if s.streams[a.stream].state ≠ .releasing then s.ann.queue else s.ann.queue.map fun r =>
            match r with
            | .release n set => .release n (if n = a.stream then set ||| made else set)
            | .object k => .object k } } ∧
      (∀ k : Slot, t.map[k] =
        if SlotSet.has made k = true then { s.map[k] with state := .pending s.setup.address a.stream 2 false }
        else s.map[k]) ∧
      Latches s t (changeFlags s t)

/-- R38, R41, R60, R87, R135, R158: an own RELEASE that ends COMPLETE quarantines its slots, closes its stream and removes
its record; where that closes the last stream of a leave, the station goes to OFFLINE.  That "publisher gone" reaches the
taps before that entry to OFFLINE, so that STALE is latched and the tap is then WAITING, is log entry 33. -/
def Obligations.ReleaseCompletes : Prop :=
  ∀ (s : State) (w : WindowNo) (a : Announcement), s.line.transmit = .driving (.announcement w a) → a.kind = .release →
    ∃ t, ∃ m : SlotMap, exec .attemptComplete s = .next t ∧
      (∀ k : Slot, m[k] =
        if SlotSet.has a.slots k = true ∧ (s.map[k].state.publisher.map Prod.fst) = some s.setup.address
        then { s.map[k] with state := .quarantine 2 } else s.map[k]) ∧
      let last := s.station.state = .leaving ∧ ∀ n : StreamNo, n ≠ a.stream → s.streams[n].state = .closed
      (¬ last →
        t = { s with
          line := completedLine s.line, map := m, taps := t.taps, latch := t.latch
          streams := s.streams.set a.stream { s.streams[a.stream] with
            state := .closed, held := s.streams[a.stream].held &&& ~~~a.slots
            pending := s.streams[a.stream].pending &&& ~~~a.slots }
          ann := { offer := none, queue := s.ann.queue.filter fun r => (releaseOf r).map Prod.fst != some a.stream } } ∧
        ∀ u : TapNo, (TapGone s.map m s.taps[u] → t.taps[u] = { s.taps[u] with state := .stale }) ∧
          (¬ TapGone s.map m s.taps[u] → t.taps[u] = s.taps[u])) ∧
      (last → EntersOffline s t) ∧
      ∃ causes, Latches s t causes ∧ ∀ f, causes f = true ↔ match f with
        | .left => last
        | .change n => s.streams[n].visible ≠ t.streams[n].visible
        | .stale u => TapGone s.map m s.taps[u]
        | _ => False

/-- R7, R10, R61, R135: an own OBJECT that ends COMPLETE leaves the queue and changes no entry, and an own mark character
settles the mark source. -/
def Obligations.ObjectAndMarkComplete : Prop :=
  (∀ (s : State) (w : WindowNo) (a : Announcement), s.line.transmit = .driving (.announcement w a) → a.kind = .object →
    ∃ t, exec .attemptComplete s = .next t ∧
      t = { s with
        line := completedLine s.line, latch := t.latch
        ann := { offer := none, queue := s.ann.queue.filter fun r =>
          match r with | .object k => !SlotSet.has a.slots k | .release _ _ => true } } ∧
      Latches s t noFlag) ∧
  (∀ (s : State) (sender : Nat), s.line.transmit = .driving (.mark sender) →
    exec .attemptComplete s = .next { s with
      line := completedLine s.line
      timer := if s.timer.markSettled = true then s.timer
        else { s.timer with markSource := sender, markSettled := true } })

/-! ### Frames of other stations -/

/-- R7, R138: a mark character in the mark tail settles the mark source once.  R129, R130, R138, R140 to R142: a run
that is a FRAMING error, characters that are no valid frame, and a character after a whole frame, as the levels of the line
show them (R127), are one receive error for the segment, which in the mark tail makes the mark source 0; the dominant run is
the one that the levels end with. -/
def Obligations.MarksAndReceiveErrors : Prop :=
  (∀ (s : State) (offset sender : Nat), Delivers s offset → s.line.segment = .markTail → 1 ≤ sender → sender ≤ 62 →
    exec (.markReceived offset sender) s = .next { s with
      line := frameEnded s.line
      timer := if s.timer.markSettled = true then s.timer
        else { s.timer with markSource := sender, markSettled := true } }) ∧
  (∀ (s : State) (offset : Nat) (bits : List BitTime), s.line.receiver = true → s.line.segment ≠ .outside →
    let heard : Stretch := { offset, bits }
    ((Stretch.received heard).framing = true ∨ ∃ r, Stretch.reception heard = some r ∧
      (s.line.condition = .ended ∨ ∃ e, judgeReception s.line.segment r = .error e)) →
    (s.line.condition ≠ .discarding → ∃ t, exec (.receiveError offset bits) s = .next t ∧
      t = { s with
        line := { s.line with
          dominantRun := (Stretch.received heard).run, condition := .discarding, assembly := none
          rxErrors := Counter.raise s.line.rxErrors 1 }
        timer := if s.line.segment = .markTail then { s.timer with markSource := 0, markSettled := true } else s.timer
        latch := t.latch } ∧
      Latches s t (oneFlag .rxError)) ∧
    (s.line.condition = .discarding → exec (.receiveError offset bits) s = .next s))

/-- R29, R30, R41, R86, R108 to R114, R138: a valid slot frame of another station makes the entry HELD by its publisher,
takes the slot from the own stream that had it, reaches the tap that follows the publisher, and leaves a tap whose
publisher is gone STALE.  The loss is reported to the stream as LOST where the entry was HELD and the lost note is set,
and as TAKEN otherwise. -/
def Obligations.SlotFrameHeard : Prop :=
  ∀ (s : State) (k : Slot) (offset : Nat) (f : SlotFrame), TapsDiffer s → Delivers s offset →
    s.line.segment = .slot k → frameLegal f = true → f.sender ≠ s.setup.address →
    let m := s.map.set k { state := .held f.sender f.stream 0 false, heard := true, reached := s.map[k].reached }
    let follows (u : TapNo) := TapFollows s u f.sender f.stream
    ∃ t causes, exec (.slotFrameReceived offset f) s = .next t ∧
      t = { s with
        line := frameEnded s.line, map := m, streams := streamsAfterLoss s k, taps := t.taps
        freeBuffers := t.freeBuffers, latch := t.latch } ∧
      (∀ u : TapNo,
        (follows u → t.taps[u] = tapAfter s.freeBuffers f s.taps[u] ∧
          t.freeBuffers = s.freeBuffers - (if tapTakes s.freeBuffers f s.taps[u] then 1 else 0)) ∧
        (TapGone s.map m s.taps[u] → t.taps[u] = { s.taps[u] with state := .stale }) ∧
        (¬ follows u → ¬ TapGone s.map m s.taps[u] → t.taps[u] = s.taps[u])) ∧
      ((∀ u : TapNo, ¬ follows u) → t.freeBuffers = s.freeBuffers) ∧
      s.frameLoss k = ((ownStreamAt s k).map fun n => { slot := k, stream := n, reason :=
        match s.map[k].state with
        | .held _ _ _ _ => if s.line.lostNote = true then .lost else .taken
        | _ => .taken }) ∧
      Latches s t causes ∧ ∀ g, causes g = true ↔ match g with
        | .change n => s.streams[n].visible ≠ t.streams[n].visible
        | .data u => follows u ∧ tapFills s.freeBuffers f s.taps[u] = true
        | .loss u => follows u ∧ tapLoses s.freeBuffers f s.taps[u] = true
        | .stale u => TapGone s.map m s.taps[u]
        | _ => False

/-- R32, R40, R44, R159, R160: a valid frame or announcement with the own address that is not the station's own takes the
station to OFFLINE with CLASH, and with no JOINED, LEFT or MUTED. -/
def Obligations.OwnAddressClashes : Prop :=
  ∀ (s : State) (offset : Nat) (c : Instr), Delivers s offset →
    ((∃ k f, s.line.segment = .slot k ∧ c = .slotFrameReceived offset f ∧ frameLegal f = true ∧
        f.sender = s.setup.address) ∨
      (∃ w n set, s.line.segment = .window w ∧ 1 ≤ s.setup.address ∧ s.setup.address ≤ 62 ∧ 1 ≤ slotCount set ∧
        slotCount set ≤ 8 ∧
        (c = .claimReceived offset s.setup.address n set ∨ c = .releaseReceived offset s.setup.address n set)) ∨
      (∃ w n k aux, s.line.segment = .window w ∧ 1 ≤ s.setup.address ∧ s.setup.address ≤ 62 ∧ aux ≤ 2 ∧
        c = .objectReceived offset s.setup.address n k aux)) →
    ∃ t, exec c s = .next t ∧ EntersOffline s t ∧ Latches s t (fun f => f == .clash || changeFlags s t f)

/-- R34, R35, R67: another station's CLAIM makes the FREE slots of its set PENDING for it and leaves every other entry; in
ACTIVE and LEAVING an OBJECT record is queued for each own slot that it names and that has none. -/
def Obligations.ClaimHeard : Prop :=
  ∀ (s : State) (w : WindowNo) (offset sender : Nat) (n : StreamNo) (slots : SlotSet), Delivers s offset →
    s.line.segment = .window w → 1 ≤ sender → sender ≤ 62 → sender ≠ s.setup.address → 1 ≤ slotCount slots →
    slotCount slots ≤ 8 →
    let named (k : Slot) : Bool := SlotSet.has slots k && (ownStreamAt s k).isSome
    let kept := s.ann.queue.filter fun r =>
      match r with | .object k => (ownStreamAt s k).isSome | .release _ _ => true
    let added := (allSlots.filter fun k => named k && !kept.contains (.object k)).map Record.object
    ∃ t, exec (.claimReceived offset sender n slots) s = .next t ∧
      t = { s with
        line := frameEnded s.line, map := t.map, latch := t.latch
        ann := { s.ann with queue :=
          if s.mayDrive = true ∧ ∃ k : Slot, named k = true then kept ++ added else s.ann.queue } } ∧
      (∀ k : Slot, t.map[k] =
        if SlotSet.has slots k = true ∧ s.map[k].state = .free
        then { s.map[k] with state := .pending sender n 2 false } else s.map[k]) ∧
      Latches s t noFlag

/-- R37, R39, R41, R86, R114: another station's RELEASE quarantines the slots of its set that it owns, and its OBJECT gives
it the named slot, from whatever owner; a tap whose publisher is gone becomes STALE. -/
def Obligations.ReleaseAndObjectHeard : Prop :=
  ∀ (s : State) (w : WindowNo) (offset sender : Nat) (n : StreamNo), Delivers s offset → s.line.segment = .window w →
    1 ≤ sender → sender ≤ 62 → sender ≠ s.setup.address →
    let applied (c : Instr) (m : SlotMap) (streams : Vector Stream 8) : Prop :=
      ∃ t causes, exec c s = .next t ∧
        t = { s with line := frameEnded s.line, map := m, streams := streams, taps := t.taps, latch := t.latch } ∧
        (∀ u : TapNo, (TapGone s.map m s.taps[u] → t.taps[u] = { s.taps[u] with state := .stale }) ∧
          (¬ TapGone s.map m s.taps[u] → t.taps[u] = s.taps[u])) ∧
        Latches s t causes ∧ ∀ f, causes f = true ↔ match f with
          | .change j => s.streams[j].visible ≠ t.streams[j].visible
          | .stale u => TapGone s.map m s.taps[u]
          | _ => False
    (∀ slots, 1 ≤ slotCount slots → slotCount slots ≤ 8 →
      applied (.releaseReceived offset sender n slots)
        (Vector.ofFn fun k =>
          if SlotSet.has slots k = true ∧ s.map[k].state.publisher.map Prod.fst = some sender
          then { s.map[k] with state := .quarantine 2 } else s.map[k])
        s.streams) ∧
    (∀ k aux, aux ≤ 2 →
      applied (.objectReceived offset sender n k aux)
        (s.map.set k { s.map[k] with
          state := if aux = 0 then .held sender n 0 false else .pending sender n aux false })
        (streamsAfterLoss s k))

/-- R127, R140, R141, R184, R185: the levels that the line unit sends for a mark, a slot frame and an announcement are, at
every station that receives them in place, the characters sent, and these are that mark, that slot frame and that
announcement, for every legal content.  R127: characters are assembled from the levels whether they follow one another at
once or after recessive bit times, and a line that reads recessive at the middle of every bit time begins none. -/
def Obligations.SentFramesAreReadBack : Prop :=
  (∀ (sender offset : Nat), 1 ≤ sender → sender ≤ 62 → offset < 20 →
    judgeReception .markTail { offset, chars := (Attempt.mark sender).chars } = .mark sender) ∧
  (∀ (k : Slot) (f : SlotFrame) (offset : Nat), frameLegal f = true → offset < 20 →
    judgeReception (.slot k) { offset, chars := (Attempt.slotFrame k f).chars } = .slotFrame f) ∧
  (∀ (w : WindowNo) (a : Announcement) (offset : Nat), announcementLegal a = true → offset < 20 →
    judgeReception (.window w) { offset, chars := (Attempt.announcement w a).chars } = .announcement a) ∧
  (∀ (a : Attempt) (offset : Nat), a ≠ .brk →
    Stretch.reception { offset, bits := bitTimes a.bits } = some { offset, chars := a.chars }) ∧
  (∀ (offset pause : Nat) (c : Byte) (later : List (Nat × Byte)),
    Stretch.reception { offset, bits := bitTimes (((pause, c) :: later).flatMap fun x =>
      List.replicate x.1 true ++ charBits x.2) } = some { offset := offset + pause, chars := c :: later.map Prod.snd }) ∧
  (∀ (offset : Nat) (bits : List BitTime), (∀ x ∈ bits, x.middle = .recessive) →
    Stretch.reception { offset, bits } = none)

/-! ### What every step keeps -/

/-- R165: every step keeps ATTN at its condition. -/
def Obligations.StepsKeepAttn : Prop :=
  ∀ s t : State, AttnFollows s → step s = .next t → AttnFollows t

/-- R57, R119, R128, R129, R131: every step keeps the current attempt, the in-flight frames and the offer in agreement. -/
def Obligations.StepsKeepAttempts : Prop :=
  ∀ s t : State, AttemptsAgree s → step s = .next t → AttemptsAgree t

/-- R82, R102, R119: every step keeps 64 buffers in all, no queue above 8 frames, and no two taps on one publisher. -/
def Obligations.StepsKeepBuffers : Prop :=
  ∀ s t : State, AttemptsAgree s → BuffersAddUp s → QueuesFit s → TapsDiffer s → step s = .next t →
    BuffersAddUp t ∧ QueuesFit t ∧ TapsDiffer t

/-- R42, R50, R60, R68, R84: every step keeps each stream's lists equal to the own entries of the map that are not detached,
so that no slot stands twice in the lists or in the lists of two streams.  R48, R50, R73, R84, R88: with that, every step
keeps the lists within the wanted count and within 16 over all streams, the counts of each stream in their ranges, and at
most one OBJECT record for a slot. -/
def Obligations.StepsKeepMapAndStreams : Prop :=
  ∀ s t : State, MapAndStreamsAgree s → step s = .next t →
    MapAndStreamsAgree t ∧ (StreamsInRange s → StreamsInRange t)

/-- R1, R20, R24, R128, R145, R146, R149, R150, R151, R154, R156, R161: every step keeps in their ranges the five fields of
the setup record (the bit rate is one of three by its type), the address not 0 outside INITIALISING and OFFLINE, the
initialisation count, the listen count, the fault window and the mute boundaries of station control, and the owner, the
counts and the detached field of the map's entries; the timer runs and the receiver is ON exactly outside INITIALISING and
OFFLINE.  That the receiver is ON in
MUTED (R24, 7.1), where R128 has it become OFF at the entry, is log entry 10. -/
def Obligations.StepsKeepRanges : Prop :=
  ∀ s t : State, AttemptsAgree s → RestsQuietly s → StationInRange s → EntriesInRange s → step s = .next t →
    StationInRange t ∧ EntriesInRange t
end

