-- ==== Sys2Proof/Laws/Sets.lean ====
section
/-! SUPPORT. Slot sets and flag sets, member by member. -/

namespace Sys2Proof.Machine

open Sys2Proof

/-! ### Slot sets -/

theorem SlotSet.ext {a b : SlotSet} (h : ∀ k : Slot, SlotSet.has a k = SlotSet.has b k) : a = b := by
  apply BitVec.eq_of_getLsbD_eq
  intro i hi
  exact h ⟨i, hi⟩

@[simp] theorem SlotSet.has_zero (k : Slot) : SlotSet.has 0 k = false := by simp [SlotSet.has]

@[simp] theorem SlotSet.has_or (a b : SlotSet) (k : Slot) :
    SlotSet.has (a ||| b) k = (SlotSet.has a k || SlotSet.has b k) := by simp [SlotSet.has]

@[simp] theorem SlotSet.has_without (a b : SlotSet) (k : Slot) :
    SlotSet.has (a &&& ~~~b) k = (SlotSet.has a k && !SlotSet.has b k) := by
  simp [SlotSet.has, k.isLt]

@[simp] theorem SlotSet.has_only (j k : Slot) : SlotSet.has (SlotSet.only j) k = decide (j = k) := by
  have hk := k.isLt
  have hj := j.isLt
  simp only [SlotSet.has, SlotSet.only, BitVec.getLsbD_twoPow, Fin.ext_iff]
  simp [hj]

theorem SlotSet.has_fold (p : Slot → Bool) (k : Slot) :
    ∀ (l : List Slot) (s : SlotSet),
      SlotSet.has (l.foldl (fun s j => if p j then s ||| SlotSet.only j else s) s) k
        = (SlotSet.has s k || (l.contains k && p k))
  | [], s => by simp
  | j :: l, s => by
    rw [List.foldl_cons, SlotSet.has_fold p k l]
    by_cases hjk : j = k
    · subst hjk; by_cases hp : p j <;> simp [hp]
    · have hkj : k ≠ j := fun h => hjk h.symm
      by_cases hp : p j <;> simp [hp, hjk, hkj]

@[simp] theorem SlotSet.has_ofPred (p : Slot → Bool) (k : Slot) : SlotSet.has (SlotSet.ofPred p) k = p k := by
  rw [SlotSet.ofPred, SlotSet.has_fold, SlotSet.has_zero]; simp [allSlots]

/-! ### Flag sets -/

/-- The flag stands in a set of flags. -/
def hasFlag (m : BitVec 66) (f : Flag) : Bool := m.getLsbD f.index

theorem Flag.index_lt (f : Flag) : f.index < 66 := by
  cases f <;> simp [Flag.index, Flag.kind, Flag.place, Kind.first] <;> omega

theorem Flag.index_inj {f g : Flag} (h : f.index = g.index) : f = g := by
  cases f <;> cases g <;> simp [Flag.index, Flag.kind, Flag.place, Kind.first] at h ⊢ <;>
    first | omega | (exact Fin.ext (by omega))

@[simp] theorem hasFlag_only (f g : Flag) : hasFlag f.only g = decide (f = g) := by
  have hf := f.index_lt
  simp only [hasFlag, Flag.only, BitVec.getLsbD_twoPow]
  by_cases h : f = g
  · subst h; simp [hf]
  · have : f.index ≠ g.index := fun e => h (Flag.index_inj e)
    simp [h, this]

@[simp] theorem hasFlag_zero (f : Flag) : hasFlag 0 f = false := by simp [hasFlag]

@[simp] theorem hasFlag_or (a b : BitVec 66) (f : Flag) : hasFlag (a ||| b) f = (hasFlag a f || hasFlag b f) := by
  simp [hasFlag]

@[simp] theorem hasFlag_without (a b : BitVec 66) (f : Flag) :
    hasFlag (a &&& ~~~b) f = (hasFlag a f && !hasFlag b f) := by
  simp [hasFlag, f.index_lt]

theorem hasFlag_fold {n : Nat} (flag : Fin n → Flag) (p : Fin n → Bool) (f : Flag) :
    ∀ (l : List (Fin n)) (m : BitVec 66),
      hasFlag (l.foldl (fun m i => if p i then m ||| (flag i).only else m) m) f
        = (hasFlag m f || l.any fun i => p i && decide (flag i = f))
  | [], m => by simp
  | i :: l, m => by
    rw [List.foldl_cons, hasFlag_fold flag p f l]
    by_cases hp : p i <;> simp [hp, Bool.or_assoc]

/-- Which flags `streamFlags` sets. -/
theorem hasFlag_streamFlags (flag : StreamNo → Flag) (p : StreamNo → Bool) (f : Flag) :
    hasFlag (streamFlags flag p) f = (List.finRange 8).any fun n => p n && decide (flag n = f) := by
  rw [streamFlags, hasFlag_fold, hasFlag_zero, Bool.false_or]

/-- Which flags `tapFlags` sets. -/
theorem hasFlag_tapFlags (flag : TapNo → Flag) (p : TapNo → Bool) (f : Flag) :
    hasFlag (tapFlags flag p) f = (List.finRange 12).any fun t => p t && decide (flag t = f) := by
  rw [tapFlags, hasFlag_fold, hasFlag_zero, Bool.false_or]

end Sys2Proof.Machine
end

