-- ==== Sys2Proof/Laws/State.lean ====
section
/-! SUPPORT. What each update of the state leaves alone, field by field, true by unfolding: no later proof unfolds a record
update to see it. -/

namespace Sys2Proof.Machine

open Sys2Proof

/-! ### State.causes -/

@[simp] theorem State.causes_setup (m : BitVec 66) (s : State) : (State.causes m s).setup = s.setup := rfl
@[simp] theorem State.causes_station (m : BitVec 66) (s : State) : (State.causes m s).station = s.station := rfl
@[simp] theorem State.causes_timer (m : BitVec 66) (s : State) : (State.causes m s).timer = s.timer := rfl
@[simp] theorem State.causes_line (m : BitVec 66) (s : State) : (State.causes m s).line = s.line := rfl
@[simp] theorem State.causes_map (m : BitVec 66) (s : State) : (State.causes m s).map = s.map := rfl
@[simp] theorem State.causes_ann (m : BitVec 66) (s : State) : (State.causes m s).ann = s.ann := rfl
@[simp] theorem State.causes_streams (m : BitVec 66) (s : State) : (State.causes m s).streams = s.streams := rfl
@[simp] theorem State.causes_taps (m : BitVec 66) (s : State) : (State.causes m s).taps = s.taps := rfl
@[simp] theorem State.causes_freeBuffers (m : BitVec 66) (s : State) : (State.causes m s).freeBuffers = s.freeBuffers := rfl
@[simp] theorem State.causes_port (m : BitVec 66) (s : State) : (State.causes m s).port = s.port := rfl
@[simp] theorem State.causes_pins (m : BitVec 66) (s : State) : (State.causes m s).pins = s.pins := rfl
@[simp] theorem State.causes_choices (m : BitVec 66) (s : State) : (State.causes m s).choices = s.choices := rfl
@[simp] theorem State.causes_pending (m : BitVec 66) (s : State) : (State.causes m s).pending = s.pending := rfl

/-! ### State.latches -/

@[simp] theorem State.latches_setup (f : Flag) (s : State) : (State.latches f s).setup = s.setup := rfl
@[simp] theorem State.latches_station (f : Flag) (s : State) : (State.latches f s).station = s.station := rfl
@[simp] theorem State.latches_timer (f : Flag) (s : State) : (State.latches f s).timer = s.timer := rfl
@[simp] theorem State.latches_line (f : Flag) (s : State) : (State.latches f s).line = s.line := rfl
@[simp] theorem State.latches_map (f : Flag) (s : State) : (State.latches f s).map = s.map := rfl
@[simp] theorem State.latches_ann (f : Flag) (s : State) : (State.latches f s).ann = s.ann := rfl
@[simp] theorem State.latches_streams (f : Flag) (s : State) : (State.latches f s).streams = s.streams := rfl
@[simp] theorem State.latches_taps (f : Flag) (s : State) : (State.latches f s).taps = s.taps := rfl
@[simp] theorem State.latches_freeBuffers (f : Flag) (s : State) : (State.latches f s).freeBuffers = s.freeBuffers := rfl
@[simp] theorem State.latches_port (f : Flag) (s : State) : (State.latches f s).port = s.port := rfl
@[simp] theorem State.latches_pins (f : Flag) (s : State) : (State.latches f s).pins = s.pins := rfl
@[simp] theorem State.latches_choices (f : Flag) (s : State) : (State.latches f s).choices = s.choices := rfl
@[simp] theorem State.latches_pending (f : Flag) (s : State) : (State.latches f s).pending = s.pending := rfl

/-! ### State.modifyStream -/

@[simp] theorem State.modifyStream_setup (n : StreamNo) (f : Stream → Stream) (s : State) : (State.modifyStream n f s).setup = s.setup := rfl
@[simp] theorem State.modifyStream_station (n : StreamNo) (f : Stream → Stream) (s : State) : (State.modifyStream n f s).station = s.station := rfl
@[simp] theorem State.modifyStream_timer (n : StreamNo) (f : Stream → Stream) (s : State) : (State.modifyStream n f s).timer = s.timer := rfl
@[simp] theorem State.modifyStream_line (n : StreamNo) (f : Stream → Stream) (s : State) : (State.modifyStream n f s).line = s.line := rfl
@[simp] theorem State.modifyStream_map (n : StreamNo) (f : Stream → Stream) (s : State) : (State.modifyStream n f s).map = s.map := rfl
@[simp] theorem State.modifyStream_ann (n : StreamNo) (f : Stream → Stream) (s : State) : (State.modifyStream n f s).ann = s.ann := rfl
@[simp] theorem State.modifyStream_taps (n : StreamNo) (f : Stream → Stream) (s : State) : (State.modifyStream n f s).taps = s.taps := rfl
@[simp] theorem State.modifyStream_freeBuffers (n : StreamNo) (f : Stream → Stream) (s : State) : (State.modifyStream n f s).freeBuffers = s.freeBuffers := rfl
@[simp] theorem State.modifyStream_latch (n : StreamNo) (f : Stream → Stream) (s : State) : (State.modifyStream n f s).latch = s.latch := rfl
@[simp] theorem State.modifyStream_port (n : StreamNo) (f : Stream → Stream) (s : State) : (State.modifyStream n f s).port = s.port := rfl
@[simp] theorem State.modifyStream_pins (n : StreamNo) (f : Stream → Stream) (s : State) : (State.modifyStream n f s).pins = s.pins := rfl
@[simp] theorem State.modifyStream_choices (n : StreamNo) (f : Stream → Stream) (s : State) : (State.modifyStream n f s).choices = s.choices := rfl
@[simp] theorem State.modifyStream_pending (n : StreamNo) (f : Stream → Stream) (s : State) : (State.modifyStream n f s).pending = s.pending := rfl

/-! ### State.updateStreams -/

@[simp] theorem State.updateStreams_setup (f : StreamNo → Stream → Stream) (s : State) : (State.updateStreams f s).setup = s.setup := rfl
@[simp] theorem State.updateStreams_station (f : StreamNo → Stream → Stream) (s : State) : (State.updateStreams f s).station = s.station := rfl
@[simp] theorem State.updateStreams_timer (f : StreamNo → Stream → Stream) (s : State) : (State.updateStreams f s).timer = s.timer := rfl
@[simp] theorem State.updateStreams_line (f : StreamNo → Stream → Stream) (s : State) : (State.updateStreams f s).line = s.line := rfl
@[simp] theorem State.updateStreams_map (f : StreamNo → Stream → Stream) (s : State) : (State.updateStreams f s).map = s.map := rfl
@[simp] theorem State.updateStreams_ann (f : StreamNo → Stream → Stream) (s : State) : (State.updateStreams f s).ann = s.ann := rfl
@[simp] theorem State.updateStreams_taps (f : StreamNo → Stream → Stream) (s : State) : (State.updateStreams f s).taps = s.taps := rfl
@[simp] theorem State.updateStreams_freeBuffers (f : StreamNo → Stream → Stream) (s : State) : (State.updateStreams f s).freeBuffers = s.freeBuffers := rfl
@[simp] theorem State.updateStreams_latch (f : StreamNo → Stream → Stream) (s : State) : (State.updateStreams f s).latch = s.latch := rfl
@[simp] theorem State.updateStreams_port (f : StreamNo → Stream → Stream) (s : State) : (State.updateStreams f s).port = s.port := rfl
@[simp] theorem State.updateStreams_pins (f : StreamNo → Stream → Stream) (s : State) : (State.updateStreams f s).pins = s.pins := rfl
@[simp] theorem State.updateStreams_choices (f : StreamNo → Stream → Stream) (s : State) : (State.updateStreams f s).choices = s.choices := rfl
@[simp] theorem State.updateStreams_pending (f : StreamNo → Stream → Stream) (s : State) : (State.updateStreams f s).pending = s.pending := rfl

/-! ### State.returnBuffers -/

@[simp] theorem State.returnBuffers_setup (n : Nat) (s : State) : (State.returnBuffers n s).setup = s.setup := rfl
@[simp] theorem State.returnBuffers_station (n : Nat) (s : State) : (State.returnBuffers n s).station = s.station := rfl
@[simp] theorem State.returnBuffers_timer (n : Nat) (s : State) : (State.returnBuffers n s).timer = s.timer := rfl
@[simp] theorem State.returnBuffers_line (n : Nat) (s : State) : (State.returnBuffers n s).line = s.line := rfl
@[simp] theorem State.returnBuffers_map (n : Nat) (s : State) : (State.returnBuffers n s).map = s.map := rfl
@[simp] theorem State.returnBuffers_ann (n : Nat) (s : State) : (State.returnBuffers n s).ann = s.ann := rfl
@[simp] theorem State.returnBuffers_streams (n : Nat) (s : State) : (State.returnBuffers n s).streams = s.streams := rfl
@[simp] theorem State.returnBuffers_taps (n : Nat) (s : State) : (State.returnBuffers n s).taps = s.taps := rfl
@[simp] theorem State.returnBuffers_latch (n : Nat) (s : State) : (State.returnBuffers n s).latch = s.latch := rfl
@[simp] theorem State.returnBuffers_port (n : Nat) (s : State) : (State.returnBuffers n s).port = s.port := rfl
@[simp] theorem State.returnBuffers_pins (n : Nat) (s : State) : (State.returnBuffers n s).pins = s.pins := rfl
@[simp] theorem State.returnBuffers_choices (n : Nat) (s : State) : (State.returnBuffers n s).choices = s.choices := rfl
@[simp] theorem State.returnBuffers_pending (n : Nat) (s : State) : (State.returnBuffers n s).pending = s.pending := rfl

/-! ### State.takeBuffer -/

@[simp] theorem State.takeBuffer_setup (s : State) : (State.takeBuffer s).setup = s.setup := rfl
@[simp] theorem State.takeBuffer_station (s : State) : (State.takeBuffer s).station = s.station := rfl
@[simp] theorem State.takeBuffer_timer (s : State) : (State.takeBuffer s).timer = s.timer := rfl
@[simp] theorem State.takeBuffer_line (s : State) : (State.takeBuffer s).line = s.line := rfl
@[simp] theorem State.takeBuffer_map (s : State) : (State.takeBuffer s).map = s.map := rfl
@[simp] theorem State.takeBuffer_ann (s : State) : (State.takeBuffer s).ann = s.ann := rfl
@[simp] theorem State.takeBuffer_streams (s : State) : (State.takeBuffer s).streams = s.streams := rfl
@[simp] theorem State.takeBuffer_taps (s : State) : (State.takeBuffer s).taps = s.taps := rfl
@[simp] theorem State.takeBuffer_latch (s : State) : (State.takeBuffer s).latch = s.latch := rfl
@[simp] theorem State.takeBuffer_port (s : State) : (State.takeBuffer s).port = s.port := rfl
@[simp] theorem State.takeBuffer_pins (s : State) : (State.takeBuffer s).pins = s.pins := rfl
@[simp] theorem State.takeBuffer_choices (s : State) : (State.takeBuffer s).choices = s.choices := rfl
@[simp] theorem State.takeBuffer_pending (s : State) : (State.takeBuffer s).pending = s.pending := rfl

/-! ### State.setQueue -/

@[simp] theorem State.setQueue_setup (q : List Record) (s : State) : (State.setQueue q s).setup = s.setup := rfl
@[simp] theorem State.setQueue_station (q : List Record) (s : State) : (State.setQueue q s).station = s.station := rfl
@[simp] theorem State.setQueue_timer (q : List Record) (s : State) : (State.setQueue q s).timer = s.timer := rfl
@[simp] theorem State.setQueue_line (q : List Record) (s : State) : (State.setQueue q s).line = s.line := rfl
@[simp] theorem State.setQueue_map (q : List Record) (s : State) : (State.setQueue q s).map = s.map := rfl
@[simp] theorem State.setQueue_streams (q : List Record) (s : State) : (State.setQueue q s).streams = s.streams := rfl
@[simp] theorem State.setQueue_taps (q : List Record) (s : State) : (State.setQueue q s).taps = s.taps := rfl
@[simp] theorem State.setQueue_freeBuffers (q : List Record) (s : State) : (State.setQueue q s).freeBuffers = s.freeBuffers := rfl
@[simp] theorem State.setQueue_latch (q : List Record) (s : State) : (State.setQueue q s).latch = s.latch := rfl
@[simp] theorem State.setQueue_port (q : List Record) (s : State) : (State.setQueue q s).port = s.port := rfl
@[simp] theorem State.setQueue_pins (q : List Record) (s : State) : (State.setQueue q s).pins = s.pins := rfl
@[simp] theorem State.setQueue_choices (q : List Record) (s : State) : (State.setQueue q s).choices = s.choices := rfl
@[simp] theorem State.setQueue_pending (q : List Record) (s : State) : (State.setQueue q s).pending = s.pending := rfl

/-! ### State.setOffer -/

@[simp] theorem State.setOffer_setup (o : Option Announcement) (s : State) : (State.setOffer o s).setup = s.setup := rfl
@[simp] theorem State.setOffer_station (o : Option Announcement) (s : State) : (State.setOffer o s).station = s.station := rfl
@[simp] theorem State.setOffer_timer (o : Option Announcement) (s : State) : (State.setOffer o s).timer = s.timer := rfl
@[simp] theorem State.setOffer_line (o : Option Announcement) (s : State) : (State.setOffer o s).line = s.line := rfl
@[simp] theorem State.setOffer_map (o : Option Announcement) (s : State) : (State.setOffer o s).map = s.map := rfl
@[simp] theorem State.setOffer_streams (o : Option Announcement) (s : State) : (State.setOffer o s).streams = s.streams := rfl
@[simp] theorem State.setOffer_taps (o : Option Announcement) (s : State) : (State.setOffer o s).taps = s.taps := rfl
@[simp] theorem State.setOffer_freeBuffers (o : Option Announcement) (s : State) : (State.setOffer o s).freeBuffers = s.freeBuffers := rfl
@[simp] theorem State.setOffer_latch (o : Option Announcement) (s : State) : (State.setOffer o s).latch = s.latch := rfl
@[simp] theorem State.setOffer_port (o : Option Announcement) (s : State) : (State.setOffer o s).port = s.port := rfl
@[simp] theorem State.setOffer_pins (o : Option Announcement) (s : State) : (State.setOffer o s).pins = s.pins := rfl
@[simp] theorem State.setOffer_choices (o : Option Announcement) (s : State) : (State.setOffer o s).choices = s.choices := rfl
@[simp] theorem State.setOffer_pending (o : Option Announcement) (s : State) : (State.setOffer o s).pending = s.pending := rfl

/-! ### State.modifyTap -/

@[simp] theorem State.modifyTap_setup (t : TapNo) (f : Tap → Tap) (s : State) : (State.modifyTap t f s).setup = s.setup := rfl
@[simp] theorem State.modifyTap_station (t : TapNo) (f : Tap → Tap) (s : State) : (State.modifyTap t f s).station = s.station := rfl
@[simp] theorem State.modifyTap_timer (t : TapNo) (f : Tap → Tap) (s : State) : (State.modifyTap t f s).timer = s.timer := rfl
@[simp] theorem State.modifyTap_line (t : TapNo) (f : Tap → Tap) (s : State) : (State.modifyTap t f s).line = s.line := rfl
@[simp] theorem State.modifyTap_map (t : TapNo) (f : Tap → Tap) (s : State) : (State.modifyTap t f s).map = s.map := rfl
@[simp] theorem State.modifyTap_ann (t : TapNo) (f : Tap → Tap) (s : State) : (State.modifyTap t f s).ann = s.ann := rfl
@[simp] theorem State.modifyTap_streams (t : TapNo) (f : Tap → Tap) (s : State) : (State.modifyTap t f s).streams = s.streams := rfl
@[simp] theorem State.modifyTap_freeBuffers (t : TapNo) (f : Tap → Tap) (s : State) : (State.modifyTap t f s).freeBuffers = s.freeBuffers := rfl
@[simp] theorem State.modifyTap_latch (t : TapNo) (f : Tap → Tap) (s : State) : (State.modifyTap t f s).latch = s.latch := rfl
@[simp] theorem State.modifyTap_port (t : TapNo) (f : Tap → Tap) (s : State) : (State.modifyTap t f s).port = s.port := rfl
@[simp] theorem State.modifyTap_pins (t : TapNo) (f : Tap → Tap) (s : State) : (State.modifyTap t f s).pins = s.pins := rfl
@[simp] theorem State.modifyTap_choices (t : TapNo) (f : Tap → Tap) (s : State) : (State.modifyTap t f s).choices = s.choices := rfl
@[simp] theorem State.modifyTap_pending (t : TapNo) (f : Tap → Tap) (s : State) : (State.modifyTap t f s).pending = s.pending := rfl

/-! ### State.updateTaps -/

@[simp] theorem State.updateTaps_setup (f : TapNo → Tap → Tap) (s : State) : (State.updateTaps f s).setup = s.setup := rfl
@[simp] theorem State.updateTaps_station (f : TapNo → Tap → Tap) (s : State) : (State.updateTaps f s).station = s.station := rfl
@[simp] theorem State.updateTaps_timer (f : TapNo → Tap → Tap) (s : State) : (State.updateTaps f s).timer = s.timer := rfl
@[simp] theorem State.updateTaps_line (f : TapNo → Tap → Tap) (s : State) : (State.updateTaps f s).line = s.line := rfl
@[simp] theorem State.updateTaps_map (f : TapNo → Tap → Tap) (s : State) : (State.updateTaps f s).map = s.map := rfl
@[simp] theorem State.updateTaps_ann (f : TapNo → Tap → Tap) (s : State) : (State.updateTaps f s).ann = s.ann := rfl
@[simp] theorem State.updateTaps_streams (f : TapNo → Tap → Tap) (s : State) : (State.updateTaps f s).streams = s.streams := rfl
@[simp] theorem State.updateTaps_freeBuffers (f : TapNo → Tap → Tap) (s : State) : (State.updateTaps f s).freeBuffers = s.freeBuffers := rfl
@[simp] theorem State.updateTaps_latch (f : TapNo → Tap → Tap) (s : State) : (State.updateTaps f s).latch = s.latch := rfl
@[simp] theorem State.updateTaps_port (f : TapNo → Tap → Tap) (s : State) : (State.updateTaps f s).port = s.port := rfl
@[simp] theorem State.updateTaps_pins (f : TapNo → Tap → Tap) (s : State) : (State.updateTaps f s).pins = s.pins := rfl
@[simp] theorem State.updateTaps_choices (f : TapNo → Tap → Tap) (s : State) : (State.updateTaps f s).choices = s.choices := rfl
@[simp] theorem State.updateTaps_pending (f : TapNo → Tap → Tap) (s : State) : (State.updateTaps f s).pending = s.pending := rfl

/-! ### State.changeMap -/

@[simp] theorem State.changeMap_setup (f : SlotMap → SlotMap) (s : State) : (State.changeMap f s).setup = s.setup := by
  simp only [State.changeMap, State.reportGone, State.causes, State.updateTaps]
@[simp] theorem State.changeMap_station (f : SlotMap → SlotMap) (s : State) : (State.changeMap f s).station = s.station := by
  simp only [State.changeMap, State.reportGone, State.causes, State.updateTaps]
@[simp] theorem State.changeMap_timer (f : SlotMap → SlotMap) (s : State) : (State.changeMap f s).timer = s.timer := by
  simp only [State.changeMap, State.reportGone, State.causes, State.updateTaps]
@[simp] theorem State.changeMap_line (f : SlotMap → SlotMap) (s : State) : (State.changeMap f s).line = s.line := by
  simp only [State.changeMap, State.reportGone, State.causes, State.updateTaps]
@[simp] theorem State.changeMap_ann (f : SlotMap → SlotMap) (s : State) : (State.changeMap f s).ann = s.ann := by
  simp only [State.changeMap, State.reportGone, State.causes, State.updateTaps]
@[simp] theorem State.changeMap_streams (f : SlotMap → SlotMap) (s : State) : (State.changeMap f s).streams = s.streams := by
  simp only [State.changeMap, State.reportGone, State.causes, State.updateTaps]
@[simp] theorem State.changeMap_freeBuffers (f : SlotMap → SlotMap) (s : State) : (State.changeMap f s).freeBuffers = s.freeBuffers := by
  simp only [State.changeMap, State.reportGone, State.causes, State.updateTaps]
@[simp] theorem State.changeMap_port (f : SlotMap → SlotMap) (s : State) : (State.changeMap f s).port = s.port := by
  simp only [State.changeMap, State.reportGone, State.causes, State.updateTaps]
@[simp] theorem State.changeMap_pins (f : SlotMap → SlotMap) (s : State) : (State.changeMap f s).pins = s.pins := by
  simp only [State.changeMap, State.reportGone, State.causes, State.updateTaps]
@[simp] theorem State.changeMap_choices (f : SlotMap → SlotMap) (s : State) : (State.changeMap f s).choices = s.choices := by
  simp only [State.changeMap, State.reportGone, State.causes, State.updateTaps]
@[simp] theorem State.changeMap_pending (f : SlotMap → SlotMap) (s : State) : (State.changeMap f s).pending = s.pending := by
  simp only [State.changeMap, State.reportGone, State.causes, State.updateTaps]

/-! ### State.detach -/

@[simp] theorem State.detach_setup (p : StreamNo → Bool) (s : State) : (State.detach p s).setup = s.setup := by
  simp only [State.detach]
@[simp] theorem State.detach_station (p : StreamNo → Bool) (s : State) : (State.detach p s).station = s.station := by
  simp only [State.detach]
@[simp] theorem State.detach_timer (p : StreamNo → Bool) (s : State) : (State.detach p s).timer = s.timer := by
  simp only [State.detach]
@[simp] theorem State.detach_line (p : StreamNo → Bool) (s : State) : (State.detach p s).line = s.line := by
  simp only [State.detach]
@[simp] theorem State.detach_ann (p : StreamNo → Bool) (s : State) : (State.detach p s).ann = s.ann := by
  simp only [State.detach]
@[simp] theorem State.detach_streams (p : StreamNo → Bool) (s : State) : (State.detach p s).streams = s.streams := by
  simp only [State.detach]
@[simp] theorem State.detach_taps (p : StreamNo → Bool) (s : State) : (State.detach p s).taps = s.taps := by
  simp only [State.detach]
@[simp] theorem State.detach_freeBuffers (p : StreamNo → Bool) (s : State) : (State.detach p s).freeBuffers = s.freeBuffers := by
  simp only [State.detach]
@[simp] theorem State.detach_latch (p : StreamNo → Bool) (s : State) : (State.detach p s).latch = s.latch := by
  simp only [State.detach]
@[simp] theorem State.detach_port (p : StreamNo → Bool) (s : State) : (State.detach p s).port = s.port := by
  simp only [State.detach]
@[simp] theorem State.detach_pins (p : StreamNo → Bool) (s : State) : (State.detach p s).pins = s.pins := by
  simp only [State.detach]
@[simp] theorem State.detach_choices (p : StreamNo → Bool) (s : State) : (State.detach p s).choices = s.choices := by
  simp only [State.detach]
@[simp] theorem State.detach_pending (p : StreamNo → Bool) (s : State) : (State.detach p s).pending = s.pending := by
  simp only [State.detach]

/-! ### State.openSegment -/

@[simp] theorem State.openSegment_setup (g : Segment) (s : State) : (State.openSegment g s).setup = s.setup := rfl
@[simp] theorem State.openSegment_station (g : Segment) (s : State) : (State.openSegment g s).station = s.station := rfl
@[simp] theorem State.openSegment_timer (g : Segment) (s : State) : (State.openSegment g s).timer = s.timer := rfl
@[simp] theorem State.openSegment_map (g : Segment) (s : State) : (State.openSegment g s).map = s.map := rfl
@[simp] theorem State.openSegment_ann (g : Segment) (s : State) : (State.openSegment g s).ann = s.ann := rfl
@[simp] theorem State.openSegment_streams (g : Segment) (s : State) : (State.openSegment g s).streams = s.streams := rfl
@[simp] theorem State.openSegment_taps (g : Segment) (s : State) : (State.openSegment g s).taps = s.taps := rfl
@[simp] theorem State.openSegment_freeBuffers (g : Segment) (s : State) : (State.openSegment g s).freeBuffers = s.freeBuffers := rfl
@[simp] theorem State.openSegment_latch (g : Segment) (s : State) : (State.openSegment g s).latch = s.latch := rfl
@[simp] theorem State.openSegment_port (g : Segment) (s : State) : (State.openSegment g s).port = s.port := rfl
@[simp] theorem State.openSegment_pins (g : Segment) (s : State) : (State.openSegment g s).pins = s.pins := rfl
@[simp] theorem State.openSegment_choices (g : Segment) (s : State) : (State.openSegment g s).choices = s.choices := rfl
@[simp] theorem State.openSegment_pending (g : Segment) (s : State) : (State.openSegment g s).pending = s.pending := rfl

/-! ### State.endFrame -/

@[simp] theorem State.endFrame_setup (s : State) : (State.endFrame s).setup = s.setup := rfl
@[simp] theorem State.endFrame_station (s : State) : (State.endFrame s).station = s.station := rfl
@[simp] theorem State.endFrame_timer (s : State) : (State.endFrame s).timer = s.timer := rfl
@[simp] theorem State.endFrame_map (s : State) : (State.endFrame s).map = s.map := rfl
@[simp] theorem State.endFrame_ann (s : State) : (State.endFrame s).ann = s.ann := rfl
@[simp] theorem State.endFrame_streams (s : State) : (State.endFrame s).streams = s.streams := rfl
@[simp] theorem State.endFrame_taps (s : State) : (State.endFrame s).taps = s.taps := rfl
@[simp] theorem State.endFrame_freeBuffers (s : State) : (State.endFrame s).freeBuffers = s.freeBuffers := rfl
@[simp] theorem State.endFrame_latch (s : State) : (State.endFrame s).latch = s.latch := rfl
@[simp] theorem State.endFrame_port (s : State) : (State.endFrame s).port = s.port := rfl
@[simp] theorem State.endFrame_pins (s : State) : (State.endFrame s).pins = s.pins := rfl
@[simp] theorem State.endFrame_choices (s : State) : (State.endFrame s).choices = s.choices := rfl
@[simp] theorem State.endFrame_pending (s : State) : (State.endFrame s).pending = s.pending := rfl

/-! ### State.setTransmit -/

@[simp] theorem State.setTransmit_setup (x : Transmit) (l : Level) (s : State) : (State.setTransmit x l s).setup = s.setup := rfl
@[simp] theorem State.setTransmit_station (x : Transmit) (l : Level) (s : State) : (State.setTransmit x l s).station = s.station := rfl
@[simp] theorem State.setTransmit_timer (x : Transmit) (l : Level) (s : State) : (State.setTransmit x l s).timer = s.timer := rfl
@[simp] theorem State.setTransmit_map (x : Transmit) (l : Level) (s : State) : (State.setTransmit x l s).map = s.map := rfl
@[simp] theorem State.setTransmit_ann (x : Transmit) (l : Level) (s : State) : (State.setTransmit x l s).ann = s.ann := rfl
@[simp] theorem State.setTransmit_streams (x : Transmit) (l : Level) (s : State) : (State.setTransmit x l s).streams = s.streams := rfl
@[simp] theorem State.setTransmit_taps (x : Transmit) (l : Level) (s : State) : (State.setTransmit x l s).taps = s.taps := rfl
@[simp] theorem State.setTransmit_freeBuffers (x : Transmit) (l : Level) (s : State) : (State.setTransmit x l s).freeBuffers = s.freeBuffers := rfl
@[simp] theorem State.setTransmit_latch (x : Transmit) (l : Level) (s : State) : (State.setTransmit x l s).latch = s.latch := rfl
@[simp] theorem State.setTransmit_port (x : Transmit) (l : Level) (s : State) : (State.setTransmit x l s).port = s.port := rfl
@[simp] theorem State.setTransmit_pins (x : Transmit) (l : Level) (s : State) : (State.setTransmit x l s).pins = s.pins := rfl
@[simp] theorem State.setTransmit_choices (x : Transmit) (l : Level) (s : State) : (State.setTransmit x l s).choices = s.choices := rfl
@[simp] theorem State.setTransmit_pending (x : Transmit) (l : Level) (s : State) : (State.setTransmit x l s).pending = s.pending := rfl

/-! ### State.handOver -/

@[simp] theorem State.handOver_setup (a : Attempt) (s : State) : (State.handOver a s).setup = s.setup := rfl
@[simp] theorem State.handOver_station (a : Attempt) (s : State) : (State.handOver a s).station = s.station := rfl
@[simp] theorem State.handOver_timer (a : Attempt) (s : State) : (State.handOver a s).timer = s.timer := rfl
@[simp] theorem State.handOver_map (a : Attempt) (s : State) : (State.handOver a s).map = s.map := rfl
@[simp] theorem State.handOver_ann (a : Attempt) (s : State) : (State.handOver a s).ann = s.ann := rfl
@[simp] theorem State.handOver_streams (a : Attempt) (s : State) : (State.handOver a s).streams = s.streams := rfl
@[simp] theorem State.handOver_taps (a : Attempt) (s : State) : (State.handOver a s).taps = s.taps := rfl
@[simp] theorem State.handOver_freeBuffers (a : Attempt) (s : State) : (State.handOver a s).freeBuffers = s.freeBuffers := rfl
@[simp] theorem State.handOver_latch (a : Attempt) (s : State) : (State.handOver a s).latch = s.latch := rfl
@[simp] theorem State.handOver_port (a : Attempt) (s : State) : (State.handOver a s).port = s.port := rfl
@[simp] theorem State.handOver_pins (a : Attempt) (s : State) : (State.handOver a s).pins = s.pins := rfl
@[simp] theorem State.handOver_choices (a : Attempt) (s : State) : (State.handOver a s).choices = s.choices := rfl
@[simp] theorem State.handOver_pending (a : Attempt) (s : State) : (State.handOver a s).pending = s.pending := rfl

/-! ### State.endAttempt -/

@[simp] theorem State.endAttempt_setup (s : State) : (State.endAttempt s).setup = s.setup := rfl
@[simp] theorem State.endAttempt_station (s : State) : (State.endAttempt s).station = s.station := rfl
@[simp] theorem State.endAttempt_timer (s : State) : (State.endAttempt s).timer = s.timer := rfl
@[simp] theorem State.endAttempt_map (s : State) : (State.endAttempt s).map = s.map := rfl
@[simp] theorem State.endAttempt_ann (s : State) : (State.endAttempt s).ann = s.ann := rfl
@[simp] theorem State.endAttempt_streams (s : State) : (State.endAttempt s).streams = s.streams := rfl
@[simp] theorem State.endAttempt_taps (s : State) : (State.endAttempt s).taps = s.taps := rfl
@[simp] theorem State.endAttempt_freeBuffers (s : State) : (State.endAttempt s).freeBuffers = s.freeBuffers := rfl
@[simp] theorem State.endAttempt_latch (s : State) : (State.endAttempt s).latch = s.latch := rfl
@[simp] theorem State.endAttempt_port (s : State) : (State.endAttempt s).port = s.port := rfl
@[simp] theorem State.endAttempt_pins (s : State) : (State.endAttempt s).pins = s.pins := rfl
@[simp] theorem State.endAttempt_choices (s : State) : (State.endAttempt s).choices = s.choices := rfl
@[simp] theorem State.endAttempt_pending (s : State) : (State.endAttempt s).pending = s.pending := rfl

/-! ### State.clearLostNote -/

@[simp] theorem State.clearLostNote_setup (s : State) : (State.clearLostNote s).setup = s.setup := rfl
@[simp] theorem State.clearLostNote_station (s : State) : (State.clearLostNote s).station = s.station := rfl
@[simp] theorem State.clearLostNote_timer (s : State) : (State.clearLostNote s).timer = s.timer := rfl
@[simp] theorem State.clearLostNote_map (s : State) : (State.clearLostNote s).map = s.map := rfl
@[simp] theorem State.clearLostNote_ann (s : State) : (State.clearLostNote s).ann = s.ann := rfl
@[simp] theorem State.clearLostNote_streams (s : State) : (State.clearLostNote s).streams = s.streams := rfl
@[simp] theorem State.clearLostNote_taps (s : State) : (State.clearLostNote s).taps = s.taps := rfl
@[simp] theorem State.clearLostNote_freeBuffers (s : State) : (State.clearLostNote s).freeBuffers = s.freeBuffers := rfl
@[simp] theorem State.clearLostNote_latch (s : State) : (State.clearLostNote s).latch = s.latch := rfl
@[simp] theorem State.clearLostNote_port (s : State) : (State.clearLostNote s).port = s.port := rfl
@[simp] theorem State.clearLostNote_pins (s : State) : (State.clearLostNote s).pins = s.pins := rfl
@[simp] theorem State.clearLostNote_choices (s : State) : (State.clearLostNote s).choices = s.choices := rfl
@[simp] theorem State.clearLostNote_pending (s : State) : (State.clearLostNote s).pending = s.pending := rfl

/-! ### State.atPosition -/

@[simp] theorem State.atPosition_setup (p : Nat) (s : State) : (State.atPosition p s).setup = s.setup := rfl
@[simp] theorem State.atPosition_station (p : Nat) (s : State) : (State.atPosition p s).station = s.station := rfl
@[simp] theorem State.atPosition_line (p : Nat) (s : State) : (State.atPosition p s).line = s.line := rfl
@[simp] theorem State.atPosition_map (p : Nat) (s : State) : (State.atPosition p s).map = s.map := rfl
@[simp] theorem State.atPosition_ann (p : Nat) (s : State) : (State.atPosition p s).ann = s.ann := rfl
@[simp] theorem State.atPosition_streams (p : Nat) (s : State) : (State.atPosition p s).streams = s.streams := rfl
@[simp] theorem State.atPosition_taps (p : Nat) (s : State) : (State.atPosition p s).taps = s.taps := rfl
@[simp] theorem State.atPosition_freeBuffers (p : Nat) (s : State) : (State.atPosition p s).freeBuffers = s.freeBuffers := rfl
@[simp] theorem State.atPosition_latch (p : Nat) (s : State) : (State.atPosition p s).latch = s.latch := rfl
@[simp] theorem State.atPosition_port (p : Nat) (s : State) : (State.atPosition p s).port = s.port := rfl
@[simp] theorem State.atPosition_pins (p : Nat) (s : State) : (State.atPosition p s).pins = s.pins := rfl
@[simp] theorem State.atPosition_choices (p : Nat) (s : State) : (State.atPosition p s).choices = s.choices := rfl
@[simp] theorem State.atPosition_pending (p : Nat) (s : State) : (State.atPosition p s).pending = s.pending := rfl

/-! ### State.takeVerdict -/

@[simp] theorem State.takeVerdict_setup (s : State) : (State.takeVerdict s).setup = s.setup := rfl
@[simp] theorem State.takeVerdict_timer (s : State) : (State.takeVerdict s).timer = s.timer := rfl
@[simp] theorem State.takeVerdict_line (s : State) : (State.takeVerdict s).line = s.line := rfl
@[simp] theorem State.takeVerdict_map (s : State) : (State.takeVerdict s).map = s.map := rfl
@[simp] theorem State.takeVerdict_ann (s : State) : (State.takeVerdict s).ann = s.ann := rfl
@[simp] theorem State.takeVerdict_streams (s : State) : (State.takeVerdict s).streams = s.streams := rfl
@[simp] theorem State.takeVerdict_taps (s : State) : (State.takeVerdict s).taps = s.taps := rfl
@[simp] theorem State.takeVerdict_freeBuffers (s : State) : (State.takeVerdict s).freeBuffers = s.freeBuffers := rfl
@[simp] theorem State.takeVerdict_latch (s : State) : (State.takeVerdict s).latch = s.latch := rfl
@[simp] theorem State.takeVerdict_port (s : State) : (State.takeVerdict s).port = s.port := rfl
@[simp] theorem State.takeVerdict_pins (s : State) : (State.takeVerdict s).pins = s.pins := rfl
@[simp] theorem State.takeVerdict_choices (s : State) : (State.takeVerdict s).choices = s.choices := rfl
@[simp] theorem State.takeVerdict_pending (s : State) : (State.takeVerdict s).pending = s.pending := rfl

/-! ### State.clearFaultMark -/

@[simp] theorem State.clearFaultMark_setup (s : State) : (State.clearFaultMark s).setup = s.setup := rfl
@[simp] theorem State.clearFaultMark_timer (s : State) : (State.clearFaultMark s).timer = s.timer := rfl
@[simp] theorem State.clearFaultMark_line (s : State) : (State.clearFaultMark s).line = s.line := rfl
@[simp] theorem State.clearFaultMark_map (s : State) : (State.clearFaultMark s).map = s.map := rfl
@[simp] theorem State.clearFaultMark_ann (s : State) : (State.clearFaultMark s).ann = s.ann := rfl
@[simp] theorem State.clearFaultMark_streams (s : State) : (State.clearFaultMark s).streams = s.streams := rfl
@[simp] theorem State.clearFaultMark_taps (s : State) : (State.clearFaultMark s).taps = s.taps := rfl
@[simp] theorem State.clearFaultMark_freeBuffers (s : State) : (State.clearFaultMark s).freeBuffers = s.freeBuffers := rfl
@[simp] theorem State.clearFaultMark_latch (s : State) : (State.clearFaultMark s).latch = s.latch := rfl
@[simp] theorem State.clearFaultMark_port (s : State) : (State.clearFaultMark s).port = s.port := rfl
@[simp] theorem State.clearFaultMark_pins (s : State) : (State.clearFaultMark s).pins = s.pins := rfl
@[simp] theorem State.clearFaultMark_choices (s : State) : (State.clearFaultMark s).choices = s.choices := rfl
@[simp] theorem State.clearFaultMark_pending (s : State) : (State.clearFaultMark s).pending = s.pending := rfl

/-! ### State.setSel -/

@[simp] theorem State.setSel_setup (low : Bool) (s : State) : (State.setSel low s).setup = s.setup := rfl
@[simp] theorem State.setSel_station (low : Bool) (s : State) : (State.setSel low s).station = s.station := rfl
@[simp] theorem State.setSel_timer (low : Bool) (s : State) : (State.setSel low s).timer = s.timer := rfl
@[simp] theorem State.setSel_line (low : Bool) (s : State) : (State.setSel low s).line = s.line := rfl
@[simp] theorem State.setSel_map (low : Bool) (s : State) : (State.setSel low s).map = s.map := rfl
@[simp] theorem State.setSel_ann (low : Bool) (s : State) : (State.setSel low s).ann = s.ann := rfl
@[simp] theorem State.setSel_streams (low : Bool) (s : State) : (State.setSel low s).streams = s.streams := rfl
@[simp] theorem State.setSel_taps (low : Bool) (s : State) : (State.setSel low s).taps = s.taps := rfl
@[simp] theorem State.setSel_freeBuffers (low : Bool) (s : State) : (State.setSel low s).freeBuffers = s.freeBuffers := rfl
@[simp] theorem State.setSel_latch (low : Bool) (s : State) : (State.setSel low s).latch = s.latch := rfl
@[simp] theorem State.setSel_port (low : Bool) (s : State) : (State.setSel low s).port = s.port := rfl
@[simp] theorem State.setSel_choices (low : Bool) (s : State) : (State.setSel low s).choices = s.choices := rfl
@[simp] theorem State.setSel_pending (low : Bool) (s : State) : (State.setSel low s).pending = s.pending := rfl

/-! ### State.modifyPort -/

@[simp] theorem State.modifyPort_setup (f : Port → Port) (s : State) : (State.modifyPort f s).setup = s.setup := rfl
@[simp] theorem State.modifyPort_station (f : Port → Port) (s : State) : (State.modifyPort f s).station = s.station := rfl
@[simp] theorem State.modifyPort_timer (f : Port → Port) (s : State) : (State.modifyPort f s).timer = s.timer := rfl
@[simp] theorem State.modifyPort_line (f : Port → Port) (s : State) : (State.modifyPort f s).line = s.line := rfl
@[simp] theorem State.modifyPort_map (f : Port → Port) (s : State) : (State.modifyPort f s).map = s.map := rfl
@[simp] theorem State.modifyPort_ann (f : Port → Port) (s : State) : (State.modifyPort f s).ann = s.ann := rfl
@[simp] theorem State.modifyPort_streams (f : Port → Port) (s : State) : (State.modifyPort f s).streams = s.streams := rfl
@[simp] theorem State.modifyPort_taps (f : Port → Port) (s : State) : (State.modifyPort f s).taps = s.taps := rfl
@[simp] theorem State.modifyPort_freeBuffers (f : Port → Port) (s : State) : (State.modifyPort f s).freeBuffers = s.freeBuffers := rfl
@[simp] theorem State.modifyPort_latch (f : Port → Port) (s : State) : (State.modifyPort f s).latch = s.latch := rfl
@[simp] theorem State.modifyPort_pins (f : Port → Port) (s : State) : (State.modifyPort f s).pins = s.pins := rfl
@[simp] theorem State.modifyPort_choices (f : Port → Port) (s : State) : (State.modifyPort f s).choices = s.choices := rfl
@[simp] theorem State.modifyPort_pending (f : Port → Port) (s : State) : (State.modifyPort f s).pending = s.pending := rfl

/-! ### State.countFrom -/

@[simp] theorem State.countFrom_setup (p : Option Nat) (n : Nat) (s : State) : (State.countFrom p n s).setup = s.setup := rfl
@[simp] theorem State.countFrom_station (p : Option Nat) (n : Nat) (s : State) : (State.countFrom p n s).station = s.station := rfl
@[simp] theorem State.countFrom_line (p : Option Nat) (n : Nat) (s : State) : (State.countFrom p n s).line = s.line := rfl
@[simp] theorem State.countFrom_map (p : Option Nat) (n : Nat) (s : State) : (State.countFrom p n s).map = s.map := rfl
@[simp] theorem State.countFrom_ann (p : Option Nat) (n : Nat) (s : State) : (State.countFrom p n s).ann = s.ann := rfl
@[simp] theorem State.countFrom_streams (p : Option Nat) (n : Nat) (s : State) : (State.countFrom p n s).streams = s.streams := rfl
@[simp] theorem State.countFrom_taps (p : Option Nat) (n : Nat) (s : State) : (State.countFrom p n s).taps = s.taps := rfl
@[simp] theorem State.countFrom_freeBuffers (p : Option Nat) (n : Nat) (s : State) : (State.countFrom p n s).freeBuffers = s.freeBuffers := rfl
@[simp] theorem State.countFrom_latch (p : Option Nat) (n : Nat) (s : State) : (State.countFrom p n s).latch = s.latch := rfl
@[simp] theorem State.countFrom_port (p : Option Nat) (n : Nat) (s : State) : (State.countFrom p n s).port = s.port := rfl
@[simp] theorem State.countFrom_pins (p : Option Nat) (n : Nat) (s : State) : (State.countFrom p n s).pins = s.pins := rfl
@[simp] theorem State.countFrom_choices (p : Option Nat) (n : Nat) (s : State) : (State.countFrom p n s).choices = s.choices := rfl
@[simp] theorem State.countFrom_pending (p : Option Nat) (n : Nat) (s : State) : (State.countFrom p n s).pending = s.pending := rfl

/-! ### State.keepRunStart -/

@[simp] theorem State.keepRunStart_setup (n : Nat) (s : State) : (State.keepRunStart n s).setup = s.setup := rfl
@[simp] theorem State.keepRunStart_station (n : Nat) (s : State) : (State.keepRunStart n s).station = s.station := rfl
@[simp] theorem State.keepRunStart_line (n : Nat) (s : State) : (State.keepRunStart n s).line = s.line := rfl
@[simp] theorem State.keepRunStart_map (n : Nat) (s : State) : (State.keepRunStart n s).map = s.map := rfl
@[simp] theorem State.keepRunStart_ann (n : Nat) (s : State) : (State.keepRunStart n s).ann = s.ann := rfl
@[simp] theorem State.keepRunStart_streams (n : Nat) (s : State) : (State.keepRunStart n s).streams = s.streams := rfl
@[simp] theorem State.keepRunStart_taps (n : Nat) (s : State) : (State.keepRunStart n s).taps = s.taps := rfl
@[simp] theorem State.keepRunStart_freeBuffers (n : Nat) (s : State) : (State.keepRunStart n s).freeBuffers = s.freeBuffers := rfl
@[simp] theorem State.keepRunStart_latch (n : Nat) (s : State) : (State.keepRunStart n s).latch = s.latch := rfl
@[simp] theorem State.keepRunStart_port (n : Nat) (s : State) : (State.keepRunStart n s).port = s.port := rfl
@[simp] theorem State.keepRunStart_pins (n : Nat) (s : State) : (State.keepRunStart n s).pins = s.pins := rfl
@[simp] theorem State.keepRunStart_choices (n : Nat) (s : State) : (State.keepRunStart n s).choices = s.choices := rfl
@[simp] theorem State.keepRunStart_pending (n : Nat) (s : State) : (State.keepRunStart n s).pending = s.pending := rfl

/-! ### State.atRun -/

@[simp] theorem State.atRun_setup (n : Nat) (s : State) : (State.atRun n s).setup = s.setup := rfl
@[simp] theorem State.atRun_station (n : Nat) (s : State) : (State.atRun n s).station = s.station := rfl
@[simp] theorem State.atRun_timer (n : Nat) (s : State) : (State.atRun n s).timer = s.timer := rfl
@[simp] theorem State.atRun_map (n : Nat) (s : State) : (State.atRun n s).map = s.map := rfl
@[simp] theorem State.atRun_ann (n : Nat) (s : State) : (State.atRun n s).ann = s.ann := rfl
@[simp] theorem State.atRun_streams (n : Nat) (s : State) : (State.atRun n s).streams = s.streams := rfl
@[simp] theorem State.atRun_taps (n : Nat) (s : State) : (State.atRun n s).taps = s.taps := rfl
@[simp] theorem State.atRun_freeBuffers (n : Nat) (s : State) : (State.atRun n s).freeBuffers = s.freeBuffers := rfl
@[simp] theorem State.atRun_latch (n : Nat) (s : State) : (State.atRun n s).latch = s.latch := rfl
@[simp] theorem State.atRun_port (n : Nat) (s : State) : (State.atRun n s).port = s.port := rfl
@[simp] theorem State.atRun_pins (n : Nat) (s : State) : (State.atRun n s).pins = s.pins := rfl
@[simp] theorem State.atRun_choices (n : Nat) (s : State) : (State.atRun n s).choices = s.choices := rfl
@[simp] theorem State.atRun_pending (n : Nat) (s : State) : (State.atRun n s).pending = s.pending := rfl

/-! ### State.noteRun -/

@[simp] theorem State.noteRun_setup (rx : Option Stretch) (s : State) : (State.noteRun rx s).setup = s.setup := rfl
@[simp] theorem State.noteRun_station (rx : Option Stretch) (s : State) : (State.noteRun rx s).station = s.station := rfl
@[simp] theorem State.noteRun_timer (rx : Option Stretch) (s : State) : (State.noteRun rx s).timer = s.timer := rfl
@[simp] theorem State.noteRun_map (rx : Option Stretch) (s : State) : (State.noteRun rx s).map = s.map := rfl
@[simp] theorem State.noteRun_ann (rx : Option Stretch) (s : State) : (State.noteRun rx s).ann = s.ann := rfl
@[simp] theorem State.noteRun_streams (rx : Option Stretch) (s : State) : (State.noteRun rx s).streams = s.streams := rfl
@[simp] theorem State.noteRun_taps (rx : Option Stretch) (s : State) : (State.noteRun rx s).taps = s.taps := rfl
@[simp] theorem State.noteRun_freeBuffers (rx : Option Stretch) (s : State) : (State.noteRun rx s).freeBuffers = s.freeBuffers := rfl
@[simp] theorem State.noteRun_latch (rx : Option Stretch) (s : State) : (State.noteRun rx s).latch = s.latch := rfl
@[simp] theorem State.noteRun_port (rx : Option Stretch) (s : State) : (State.noteRun rx s).port = s.port := rfl
@[simp] theorem State.noteRun_pins (rx : Option Stretch) (s : State) : (State.noteRun rx s).pins = s.pins := rfl
@[simp] theorem State.noteRun_choices (rx : Option Stretch) (s : State) : (State.noteRun rx s).choices = s.choices := rfl
@[simp] theorem State.noteRun_pending (rx : Option Stretch) (s : State) : (State.noteRun rx s).pending = s.pending := rfl

/-! ### State.noteChanges -/

@[simp] theorem State.noteChanges_setup (s u : State) : (State.noteChanges s u).setup = u.setup := rfl
@[simp] theorem State.changing_setup (f : State → State) (s : State) : (State.changing f s).setup = (f s).setup := rfl
@[simp] theorem State.noteChanges_station (s u : State) : (State.noteChanges s u).station = u.station := rfl
@[simp] theorem State.changing_station (f : State → State) (s : State) : (State.changing f s).station = (f s).station := rfl
@[simp] theorem State.noteChanges_timer (s u : State) : (State.noteChanges s u).timer = u.timer := rfl
@[simp] theorem State.changing_timer (f : State → State) (s : State) : (State.changing f s).timer = (f s).timer := rfl
@[simp] theorem State.noteChanges_line (s u : State) : (State.noteChanges s u).line = u.line := rfl
@[simp] theorem State.changing_line (f : State → State) (s : State) : (State.changing f s).line = (f s).line := rfl
@[simp] theorem State.noteChanges_map (s u : State) : (State.noteChanges s u).map = u.map := rfl
@[simp] theorem State.changing_map (f : State → State) (s : State) : (State.changing f s).map = (f s).map := rfl
@[simp] theorem State.noteChanges_ann (s u : State) : (State.noteChanges s u).ann = u.ann := rfl
@[simp] theorem State.changing_ann (f : State → State) (s : State) : (State.changing f s).ann = (f s).ann := rfl
@[simp] theorem State.noteChanges_streams (s u : State) : (State.noteChanges s u).streams = u.streams := rfl
@[simp] theorem State.changing_streams (f : State → State) (s : State) : (State.changing f s).streams = (f s).streams := rfl
@[simp] theorem State.noteChanges_taps (s u : State) : (State.noteChanges s u).taps = u.taps := rfl
@[simp] theorem State.changing_taps (f : State → State) (s : State) : (State.changing f s).taps = (f s).taps := rfl
@[simp] theorem State.noteChanges_freeBuffers (s u : State) : (State.noteChanges s u).freeBuffers = u.freeBuffers := rfl
@[simp] theorem State.changing_freeBuffers (f : State → State) (s : State) : (State.changing f s).freeBuffers = (f s).freeBuffers := rfl
@[simp] theorem State.noteChanges_port (s u : State) : (State.noteChanges s u).port = u.port := rfl
@[simp] theorem State.changing_port (f : State → State) (s : State) : (State.changing f s).port = (f s).port := rfl
@[simp] theorem State.noteChanges_pins (s u : State) : (State.noteChanges s u).pins = u.pins := rfl
@[simp] theorem State.changing_pins (f : State → State) (s : State) : (State.changing f s).pins = (f s).pins := rfl
@[simp] theorem State.noteChanges_choices (s u : State) : (State.noteChanges s u).choices = u.choices := rfl
@[simp] theorem State.changing_choices (f : State → State) (s : State) : (State.changing f s).choices = (f s).choices := rfl
@[simp] theorem State.noteChanges_pending (s u : State) : (State.noteChanges s u).pending = u.pending := rfl
@[simp] theorem State.changing_pending (f : State → State) (s : State) : (State.changing f s).pending = (f s).pending := rfl

/-! ### The fields that the updates write -/

@[simp] theorem State.modifyStream_same (n : StreamNo) (f : Stream → Stream) (s : State) :
    (State.modifyStream n f s).streams[n] = f s.streams[n] := by
  simp [State.modifyStream]

theorem State.modifyStream_other {n m : StreamNo} (h : m ≠ n) (f : Stream → Stream) (s : State) :
    (State.modifyStream n f s).streams[m] = s.streams[m] := by
  have : (n : Nat) ≠ m := fun e => h (Fin.ext e.symm)
  simp [State.modifyStream, this]

@[simp] theorem State.updateStreams_get (f : StreamNo → Stream → Stream) (s : State) (n : StreamNo) :
    (State.updateStreams f s).streams[n] = f n s.streams[n] := by
  simp [State.updateStreams]

@[simp] theorem State.modifyTap_same (t : TapNo) (f : Tap → Tap) (s : State) :
    (State.modifyTap t f s).taps[t] = f s.taps[t] := by
  simp [State.modifyTap]

theorem State.modifyTap_other {t u : TapNo} (h : u ≠ t) (f : Tap → Tap) (s : State) :
    (State.modifyTap t f s).taps[u] = s.taps[u] := by
  have : (t : Nat) ≠ u := fun e => h (Fin.ext e.symm)
  simp [State.modifyTap, this]

@[simp] theorem State.updateTaps_get (f : TapNo → Tap → Tap) (s : State) (t : TapNo) :
    (State.updateTaps f s).taps[t] = f t s.taps[t] := by
  simp [State.updateTaps]

@[simp] theorem State.changeMap_map (f : SlotMap → SlotMap) (s : State) : (State.changeMap f s).map = f s.map := by
  simp only [State.changeMap, State.reportGone, State.causes, State.updateTaps]

@[simp] theorem State.detach_map (p : StreamNo → Bool) (s : State) :
    (State.detach p s).map = s.map.detach s.own p := rfl

@[simp] theorem State.returnBuffers_freeBuffers (n : Nat) (s : State) :
    (State.returnBuffers n s).freeBuffers = s.freeBuffers + n := rfl

@[simp] theorem State.takeBuffer_freeBuffers (s : State) : (State.takeBuffer s).freeBuffers = s.freeBuffers - 1 := rfl

@[simp] theorem State.setQueue_queue (q : List Record) (s : State) : (State.setQueue q s).ann.queue = q := rfl

@[simp] theorem State.setQueue_offer (q : List Record) (s : State) : (State.setQueue q s).ann.offer = s.ann.offer := rfl

@[simp] theorem State.setOffer_offer (o : Option Announcement) (s : State) : (State.setOffer o s).ann.offer = o := rfl

@[simp] theorem State.setOffer_queue (o : Option Announcement) (s : State) :
    (State.setOffer o s).ann.queue = s.ann.queue := rfl

@[simp] theorem State.setTransmit_transmit (x : Transmit) (l : Level) (s : State) :
    (State.setTransmit x l s).line.transmit = x := rfl

@[simp] theorem State.setTransmit_txd (x : Transmit) (l : Level) (s : State) : (State.setTransmit x l s).line.txd = l := rfl

@[simp] theorem State.handOver_transmit (a : Attempt) (s : State) : (State.handOver a s).line.transmit = .waiting a := rfl

@[simp] theorem State.endAttempt_transmit (s : State) : (State.endAttempt s).line.transmit = .idle := rfl

@[simp] theorem State.endAttempt_txd (s : State) : (State.endAttempt s).line.txd = .recessive := rfl

@[simp] theorem State.causes_latch (m : BitVec 66) (s : State) : (State.causes m s).latch = s.latch.causes m := rfl

end Sys2Proof.Machine
end

