-- ==== Sys2Proof/Laws/Latch.lean ====
section
/-! SUPPORT. The event latch: what a set of causes does, said once, and ATTN kept by every operation on the latch. -/

namespace Sys2Proof.Machine

open Sys2Proof Sys2Proof.Safety

theorem flagSet_eq (s : State) (f : Flag) : flagSet s f = hasFlag s.latch.flags f := rfl

theorem flagMarked_eq (s : State) (f : Flag) : flagMarked s f = hasFlag s.latch.reported f := rfl

/-- A set of causes on a state whose latch is that of `s`. -/
theorem latches_causes {s u : State} (h : u.latch = s.latch) (m : BitVec 66) :
    Latches s (State.causes m u) (hasFlag m) := by
  refine ⟨fun f => ?_, fun f => ?_, ?_, fun _ => ?_⟩
  · simp [flagSet_eq, State.causes, EventLatch.causes, EventLatch.judge, h]
  · simp [flagMarked_eq, State.causes, EventLatch.causes, EventLatch.judge, h]
  · simp [State.causes, EventLatch.causes, EventLatch.judge, h]
  · simp [AttnFollows, State.causes, EventLatch.causes, EventLatch.judge]

/-- An update that leaves the latch alone. -/
theorem latches_none {s t : State} (h : t.latch = s.latch) : Latches s t noFlag := by
  refine ⟨fun f => ?_, fun f => ?_, ?_, fun ha => ?_⟩
  · simp [flagSet, h, noFlag]
  · simp [flagMarked, h, noFlag]
  · rw [h]
  · simpa [AttnFollows, h] using ha

/-- Two events after one another. -/
theorem latches_trans {s t u : State} {p q : Flag → Bool} (h : Latches s t p) (h' : Latches t u q) :
    Latches s u (fun f => p f || q f) := by
  obtain ⟨h1, h2, h3, h4⟩ := h
  obtain ⟨k1, k2, k3, k4⟩ := h'
  refine ⟨fun f => ?_, fun f => ?_, by rw [k3, h3], fun ha => k4 (h4 ha)⟩
  · rw [k1, h1, Bool.or_assoc]
  · rw [k2, h2, Bool.not_or, Bool.and_assoc]

theorem latches_congr {s t : State} {p q : Flag → Bool} (h : Latches s t p) (e : ∀ f, p f = q f) : Latches s t q := by
  have : p = q := funext e
  rwa [← this]

/-- Which flags the CHANGE causes of an event are. -/
theorem hasFlag_changes (s t : State) (f : Flag) :
    hasFlag (streamFlags .change fun n => s.streams[n].visible != t.streams[n].visible) f = changeFlags s t f := by
  rw [hasFlag_streamFlags]
  cases f with
  | change m =>
    simp only [changeFlags, Flag.change.injEq]
    rw [Bool.eq_iff_iff, List.any_eq_true]
    simp only [List.mem_finRange, Bool.and_eq_true, decide_eq_true_eq, true_and]
    exact ⟨fun ⟨n, hn, e⟩ => e ▸ hn, fun h => ⟨m, h, rfl⟩⟩
  | _ => simp [changeFlags]

/-- R98: the CHANGE causes of an event. -/
theorem latches_noteChanges {s u v : State} {p : Flag → Bool} (h : Latches s v p) :
    Latches s (State.noteChanges u v) (fun f => p f || changeFlags u v f) := by
  have := latches_causes (s := v) (u := v) rfl
    (streamFlags .change fun n => u.streams[n].visible != v.streams[n].visible)
  exact latches_congr (latches_trans h this) fun f => by rw [hasFlag_changes]

theorem attn_judge (l : EventLatch) : l.judge.attn = attnCondition l.judge.flags l.judge.enables := rfl

end Sys2Proof.Machine
end

