-- ==== Sys2Proof/Laws/Line.lean ====
section
/-! SUPPORT. The line unit's operations, each said once: a receive error, the end and the start of a segment, and the
reception that an event shows. -/

namespace Sys2Proof.Machine

open Sys2Proof Sys2Proof.Safety

/-- R7, R142: the cycle timer after a receive error, or none. -/
def errorTimer (e : Bool) (s : State) : Timer :=
  if e = true ∧ s.line.segment = .markTail then { s.timer with markSource := 0, markSettled := true } else s.timer

/-- R142: the latch after a receive error, or none. -/
def errorLatch (e : Bool) (l : EventLatch) : EventLatch := if e then l.causes Flag.rxError.only else l

theorem rxError_eq (s : State) : State.rxError s = { s with
    timer := errorTimer s.countsErrors s, latch := errorLatch s.countsErrors s.latch
    line := { s.line with
      rxErrors := errorCount s.countsErrors s.line.rxErrors
      condition := if s.countsErrors then .discarding else s.line.condition
      assembly := if s.countsErrors then none else s.line.assembly } } := by
  simp only [State.rxError, State.markTailError, errorTimer, errorLatch, errorCount]
  by_cases h : s.countsErrors = true
  · rw [if_pos h, h]
    by_cases hm : s.line.segment = .markTail <;> simp [hm, State.latches, State.causes]
  · rw [if_neg h]
    simp [h]

/-- R139: the end of a segment: the receive side's record of the frame apart, it is a receive error or nothing. -/
theorem closeSegment_spec (rx : Option Stretch) (s : State) : ∃ c a, State.closeSegment rx s = { s with
    timer := errorTimer (cutShort s rx) s, latch := errorLatch (cutShort s rx) s.latch
    line := { s.line with
      rxErrors := errorCount (cutShort s rx) s.line.rxErrors, condition := c, assembly := a } } := by
  obtain ⟨setup, station, timer, ⟨receiver, run, segment, condition, assembly, transmit, note, errors, txd⟩, map, ann,
    streams, taps, free, latch, port, pins, choices, pending⟩ := s
  cases receiver <;> cases condition <;> cases hb : begun rx <;> by_cases ho : segment = .outside <;>
    by_cases hm : segment = .markTail <;>
    simp [State.closeSegment, State.noteReception, State.beginCharacter, rxError_eq, errorTimer, errorLatch, errorCount,
      State.countsErrors, cutShort, ho, hm, hb]

/-- R2, R7, R137, R139: the start of a segment with no SETTLING attempt. -/
theorem startSegment_spec {s : State} (h : State.settle s = s) (g : Segment) (position : Nat) (rx : Option Stretch) :
    SegmentOpens g position rx s (State.startSegment g position rx s) ∧
    State.startSegment g position rx s = { s with
      timer := (State.startSegment g position rx s).timer, line := (State.startSegment g position rx s).line
      latch := errorLatch (cutShort s rx) s.latch } ∧
    (State.startSegment g position rx s).line.transmit = s.line.transmit ∧
    (State.startSegment g position rx s).line.txd = s.line.txd ∧
    (State.startSegment g position rx s).line.lostNote = s.line.lostNote := by
  obtain ⟨c, a, hc⟩ := closeSegment_spec rx s
  simp only [State.startSegment, h, hc, State.settleMark, State.openSegment, errorTimer, State.noteRun, State.atRun]
  by_cases he : cutShort s rx = true <;> by_cases hm : s.line.segment = .markTail <;>
    by_cases hk : s.timer.markSettled = true <;>
    simp [he, hm, hk, errorLatch, errorCount] <;> constructor <;> simp [he, hm, hk, errorCount, runShown] <;> cases rx <;> rfl

/-- R138: everything that a shown reception does outside an ENDED segment: a frame that has begun there is under assembly. -/
theorem noteReception_spec (rx : Option Stretch) {s : State} (h : s.line.condition ≠ .ended) :
    let heard := begun rx ≠ none ∧
      ((s.line.receiver = true ∧ s.line.segment ≠ .outside ∧ s.line.condition = .opened) ∨ s.line.condition = .receiving)
    State.noteReception rx s = { s with line := { s.line with
      condition := if heard then .receiving else s.line.condition
      assembly := if heard then begun rx else s.line.assembly } } := by
  obtain ⟨setup, station, timer, ⟨receiver, run, segment, condition, assembly, transmit, note, errors, txd⟩, map, ann,
    streams, taps, free, latch, port, pins, choices, pending⟩ := s
  cases hb : begun rx <;> cases receiver <;> cases condition <;> by_cases ho : segment = .outside <;>
    simp_all [State.noteReception, State.beginCharacter]

end Sys2Proof.Machine
end

