-- ==== Sys2Proof/Laws/Port.lean ====
section
/-! SUPPORT. What the host port makes of the bytes of a request, said once. -/

namespace Sys2Proof.Machine

open Sys2Proof Sys2Proof.Safety

/-- The port after the request code and as many arguments of `count` as have come. -/
def inArguments (s : State) (code count : Byte) (args : List Byte) : State := { s with port := { s.port with
  phase := .arguments, statusPrefix := some s.prefixByte, code := some code, count := some count, args := args
  shifted := s.prefixByte :: List.replicate (1 + args.length) 0 } }

/-- The port at the taking of a complete request. -/
def atTaking (s : State) (code count : Byte) (args : List Byte) : State :=
  State.modifyPort (fun p => { p with phase := .answer }) (inArguments s code count args)

@[simp] theorem clockBytes_nil (s : State) : State.clockBytes [] s = s := rfl

@[simp] theorem clockBytes_cons (b : Byte) (bytes : List Byte) (s : State) :
    State.clockBytes (b :: bytes) s = State.clockBytes bytes (State.clock s b) := rfl

theorem clockBytes_append (first second : List Byte) (s : State) :
    State.clockBytes (first ++ second) s = State.clockBytes second (State.clockBytes first s) := by
  simp [State.clockBytes]

/-- R174: arguments that do not complete the request. -/
theorem clock_arguments (s : State) (code count : Byte) (args more : List Byte) (hh : s.port.held = false)
    (h : args.length + more.length < count.toNat) :
    State.clockBytes more (inArguments s code count args) = inArguments s code count (args ++ more) := by
  induction more generalizing args with
  | nil => simp
  | cons b more ih =>
    simp only [List.length_cons] at h
    have h1 : args.length + 1 < count.toNat := by omega
    have : State.clock (inArguments s code count args) b = inArguments s code count (args ++ [b]) := by
      simp [State.clock, State.clockArgument, State.modifyPort, Port.shift, inArguments, hh, h1, List.replicate_add,
        List.length_append]
    rw [clockBytes_cons, this, ih (args ++ [b]) (by simp; omega)]
    simp

/-- R172 to R174: a request that has its arguments, or needs none, is taken by the port: what the block makes of it, and the
answer, stand in `answerRequest` and `present`. -/
theorem clock_complete {s : State} {code n : Byte} {args : List Byte} (hp : s.port.phase = .code)
    (hh : s.port.held = false) (h : completes n args) :
    State.clockBytes (code :: n :: args) s =
      present (answerRequest (requestRow code) n args (atTaking s code n args)) := by
  have hc : State.clock s code = State.clockCode code s := by simp [State.clock, hh, hp]
  have hk (b : Byte) : State.clock (State.clockCode code s) b = State.clockCount b (State.clockCode code s) := by
    simp [State.clock, State.clockCode, State.modifyPort, hh]
  rw [clockBytes_cons, clockBytes_cons, hc, hk]
  by_cases ha : args = []
  · subst ha
    have : ¬ (1 ≤ n.toNat ∧ n.toNat ≤ 40) := by
      rcases h with ⟨_, h2⟩ | ⟨h1, _⟩
      · simp at h2; omega
      · omega
    rw [State.clockCount, if_neg this]
    simp [State.takeRequest, State.clockCode, State.modifyPort, Port.shift, atTaking, inArguments]
  · rcases h with ⟨h1, h2⟩ | ⟨_, h2⟩
    swap
    · exact absurd h2 ha
    have hpos : 1 ≤ n.toNat := by
      cases args with
      | nil => exact absurd rfl ha
      | cons b l => simp at h2; omega
    obtain ⟨front, last, rfl⟩ : ∃ front last, args = front ++ [last] :=
      ⟨args.dropLast, args.getLast ha, (List.dropLast_append_getLast ha).symm⟩
    simp only [List.length_append, List.length_singleton] at h2
    have e : State.clockCount n (State.clockCode code s) = inArguments s code n [] := by
      rw [State.clockCount, if_pos ⟨hpos, h1⟩]
      simp [State.clockCode, State.modifyPort, Port.shift, inArguments]
    rw [e, clockBytes_append, clock_arguments s code n [] front hh (by simp; omega), clockBytes_cons, clockBytes_nil]
    simp only [List.nil_append]
    have : ¬ front.length + 1 < n.toNat := by omega
    simp [State.clock, State.clockArgument, State.modifyPort, Port.shift, inArguments, hh, this, State.takeRequest, atTaking,
      List.replicate_add]

/-- A complete request with a count that fits goes to its block, whose reply is presented. -/
theorem request_complete {s : State} {code n : Byte} {args : List Byte} {row : RequestRow} (h : TakesRequests s)
    (hr : requestRow code = some row) (ha : args.length = n.toNat) (hn : n.toNat ≤ 40) (hf : row.needs n.toNat = true) :
    State.clockBytes (code :: n :: args) s = present (row.take args (atTaking s code n args)) := by
  obtain ⟨hp, hh, hi⟩ := h
  have h41 : ¬ 41 ≤ n.toNat := by omega
  have hs : (atTaking s code n args).station.state ≠ .initialising := hi
  rw [clock_complete hp hh (.inl ⟨hn, ha⟩), hr]
  simp [answerRequest, hs, hf, h41]

/-- The presentation of a refusal. -/
theorem present_refuse {code n : Byte} {args : List Byte} {st : Status} {s : State} (h : st ≠ .done) :
    present (refuse st (atTaking s code n args)) = answeredOnly s code n args st.value := by
  simp [present, refuse, atTaking, inArguments, State.modifyPort, answeredOnly, answeredPort, h]

end Sys2Proof.Machine
end

