-- ==== Sys2Proof/Laws/Station.lean ====
section
/-! SUPPORT. The operations on streams and on the station's state, each said once: the derived state of a stream, the end
of an attempt, entry to OFFLINE, and silent release. -/

namespace Sys2Proof.Machine

open Sys2Proof Sys2Proof.Safety

/-! ### Streams -/

theorem isOpen_iff (st : Stream) : st.isOpen = true ↔ StreamIsOpen st := by
  simp only [StreamIsOpen, Stream.isOpen]
  cases st.state <;> simp

/-- R77: the derived state. -/
theorem derive_eq (st : Stream) :
    st.derive = { st with state := if StreamIsOpen st then derivedState st.held st.wanted else st.state } := by
  obtain ⟨state, suspended, wanted, held, pending, queue, inFlight, nextSeq, closeCount, sent, requeued, lost, attempts,
    backoff, stall⟩ := st
  cases state <;> simp only [Stream.derive, StreamIsOpen, derivedState] <;> simp <;> split <;> (try split) <;> rfl

/-- R85. -/
theorem confirm_eq (c : SlotSet) (st : Stream) : st.confirm c = { st with
    held := st.held ||| c, pending := st.pending &&& ~~~c
    state := if StreamIsOpen st then derivedState (st.held ||| c) st.wanted else st.state } := by
  simp only [Stream.confirm, derive_eq]

/-- R86. -/
theorem lose_eq (k : SlotSet) (st : Stream) : st.lose k = { st with
    held := st.held &&& ~~~k, pending := st.pending &&& ~~~k, lost := Counter.raise st.lost (SlotSet.card k)
    state := if StreamIsOpen st then derivedState (st.held &&& ~~~k) st.wanted else st.state } := by
  simp only [Stream.lose, derive_eq]

/-- R90: a stream at entry to OFFLINE, from whatever state. -/
theorem offline_eq (st : Stream) :
    st.offline = { st with state := .closed, held := 0, pending := 0, queue := [], inFlight := none } := by
  by_cases h : st.state = .closed <;> simp [Stream.offline, Stream.close, h]

/-- R62. -/
theorem loseClaim_eq (own : Nat) (st : Stream) : st.loseClaim own = lostClaimStream own st := by
  have h : st.attempts - 1 = 0 ↔ st.attempts ≤ 1 := by omega
  simp only [Stream.loseClaim, lostClaimStream, h]

/-! ### Attempts -/

/-- R95: a DATA frame that comes back. -/
theorem requeue_eq (n : StreamNo) (s : State) : State.requeue n s = { s with
    streams := s.streams.set n (returnedStream s.streams[n])
    freeBuffers := s.freeBuffers + returnedBuffers s.streams[n] } := by
  simp only [State.requeue]
  cases h : s.streams[n].inFlight with
  | none => simp only [Fin.getElem_fin] at h; simp [returnedStream, returnedBuffers, h]
  | some f =>
    simp only [Fin.getElem_fin] at h
    cases hd : f.discard <;>
      simp [returnedStream, returnedBuffers, h, hd, State.modifyStream, State.returnBuffers]

/-- R63, R64, R95: an attempt that ends FAULT or CUT, in the block that made it. -/
theorem attemptReturns_spec (a : Attempt) (s : State) :
    AttemptFails none a s (State.attemptReturns a s) ∧
    State.attemptReturns a s = { s with
      line := { s.line with transmit := .idle, txd := .recessive }, ann := (State.attemptReturns a s).ann
      streams := (State.attemptReturns a s).streams, freeBuffers := (State.attemptReturns a s).freeBuffers } := by
  cases a with
  | slotFrame k f =>
    cases hb : f.body with
    | keep =>
      refine ⟨⟨?_, ?_, ?_, fun n => ?_, ?_⟩, ?_⟩ <;>
        simp [State.attemptReturns, State.frameReturns, hb, announced, dataStream, claimStream, State.endAttempt,
          State.setTransmit]
    | data p =>
      simp only [State.attemptReturns, State.frameReturns, hb, requeue_eq]
      refine ⟨⟨?_, ?_, ?_, fun n => ?_, ?_⟩, ?_⟩ <;>
        simp [announced, dataStream, hb, State.endAttempt, State.setTransmit]
      by_cases hn : f.stream = n
      · subst hn; simp
      · have : (f.stream : Nat) ≠ n := fun e => hn (Fin.ext e)
        simp [this, hn]
  | announcement w c =>
    refine ⟨⟨?_, ?_, ?_, fun n => ?_, ?_⟩, ?_⟩ <;>
      simp [State.attemptReturns, announced, dataStream, State.endAttempt, State.setTransmit, State.setOffer]
  | _ =>
    refine ⟨⟨?_, ?_, ?_, fun n => ?_, ?_⟩, ?_⟩ <;>
      simp [State.attemptReturns, announced, dataStream, claimStream, State.endAttempt, State.setTransmit]

/-- R132, R153: an attempt that ends FAULT. -/
theorem attemptFault_spec (a : Attempt) (s : State) :
    AttemptFails (some .fault) a s (State.attemptFault a s) ∧
    State.attemptFault a s = { s with
      line := { s.line with transmit := .idle, txd := .recessive }, station := (State.attemptFault a s).station
      ann := (State.attemptFault a s).ann, streams := (State.attemptFault a s).streams
      freeBuffers := (State.attemptFault a s).freeBuffers } := by
  obtain ⟨⟨h1, h2, h3, h4, h5⟩, h6⟩ := attemptReturns_spec a s
  have hd : (State.attemptReturns a s).mayDrive = s.mayDrive := by rw [h6]; rfl
  simp only [State.attemptFault, State.markFault, hd]
  generalize State.attemptReturns a s = u at *
  cases hm : s.mayDrive <;> simp only [Bool.false_eq_true, if_false, if_true] <;>
    refine ⟨⟨h1, ?_, h3, ?_, h5⟩, ?_⟩
  · simpa [hm] using h2
  · simpa using h4
  · rw [h6]
  · have : u.station = s.station := by simpa using h2
    simp [hm, this]
  · simpa using h4
  · rw [h6]

/-! ### Entry to OFFLINE -/

theorem enterOffline_spec (s : State) : EntersOffline s (State.enterOffline s) := by
  refine ⟨rfl, rfl, ⟨rfl, rfl, rfl⟩, ⟨rfl, rfl⟩, fun k => ?_, rfl, fun n => ?_, fun u => ?_, rfl, rfl, rfl⟩
  · simp [State.enterOffline, SlotMap.cleared]
  · simp [State.enterOffline, offline_eq]
  · simp [State.enterOffline, Tap.offline]

/-! ### Silent release -/

/-- R69: what silent release of the streams that satisfy a condition leaves of the whole state. -/
def releasedSilently (p : StreamNo → Bool) (s : State) : State := { s with
  map := s.map.detach s.own p
  ann := { s.ann with queue := s.ann.queue.filter fun r => match releaseOf r with | some (n, _) => !p n | none => true }
  streams := Vector.ofFn fun n => if p n then s.streams[n].close else s.streams[n] }

theorem detach_detach (own : Nat) (p q : StreamNo → Bool) (e : EntryState) :
    (e.detach own p).detach own q = e.detach own fun n => p n || q n := by
  cases e <;> simp [EntryState.detach, Bool.and_or_distrib_left, Bool.or_assoc]

theorem map_detach_detach (m : SlotMap) (own : Nat) (p q : StreamNo → Bool) :
    (m.detach own p).detach own q = m.detach own fun n => p n || q n := by
  ext k hk; simp [SlotMap.detach, SlotMap.updateStates, SlotMap.update, detach_detach]

theorem map_detach_none (m : SlotMap) (own : Nat) : (m.detach own fun _ => false) = m := by
  have (e : EntryState) : e.detach own (fun _ => false) = e := by cases e <;> simp [EntryState.detach]
  ext k hk; simp [SlotMap.detach, SlotMap.updateStates, SlotMap.update, this]

theorem silentRelease_eq (n : StreamNo) (s : State) : State.silentRelease n s = releasedSilently (· == n) s := by
  have hq : (fun r : Record => !r.isReleaseOf n) =
      fun r => match releaseOf r with | some (m, _) => !(m == n) | none => true := by
    funext r; cases r <;> rfl
  have hs : s.streams.set n s.streams[n].close = Vector.ofFn fun m => if m == n then s.streams[m].close else s.streams[m] := by
    ext i hi
    by_cases e : (n : Nat) = i
    · subst e; simp
    · have : ¬ (⟨i, hi⟩ : Fin 8) = n := fun h => e (by rw [← h])
      simp [e, this]
  simp only [State.silentRelease, State.modifyStream, State.detach, State.dropRelease, State.setQueue, releasedSilently, hq]
  rw [← hs]; rfl

theorem releasedSilently_none (s : State) : releasedSilently (fun _ => false) s = s := by
  have hq : s.ann.queue.filter (fun r => match releaseOf r with | some (_, _) => !false | none => true) = s.ann.queue := by
    rw [List.filter_eq_self]; intro r _; cases r <;> rfl
  simp only [releasedSilently, map_detach_none, hq]
  simp

theorem releasedSilently_both (p q : StreamNo → Bool) (s : State) :
    releasedSilently q (releasedSilently p s) = releasedSilently (fun n => p n || q n) s := by
  simp only [releasedSilently, State.own, map_detach_detach, List.filter_filter]
  have hq : (fun r : Record => (match releaseOf r with | some (n, _) => !q n | none => true) &&
      match releaseOf r with | some (n, _) => !p n | none => true) =
      fun r => match releaseOf r with | some (n, _) => !(p n || q n) | none => true := by
    funext r; cases r <;> simp [releaseOf, Bool.and_comm]
  have hs : (Vector.ofFn fun n : StreamNo => if q n = true then
      Stream.close (Vector.ofFn fun n : StreamNo => if p n = true then s.streams[n].close else s.streams[n])[n]
      else (Vector.ofFn fun n : StreamNo => if p n = true then s.streams[n].close else s.streams[n])[n]) =
      Vector.ofFn fun n => if (p n || q n) = true then s.streams[n].close else s.streams[n] := by
    ext i hi
    cases hp : p ⟨i, hi⟩ <;> cases hq : q ⟨i, hi⟩ <;> simp [hp, hq, Stream.close]
  rw [hq, hs]

/-- A fold of silent releases over distinct streams, each judged on its own stream as it stands then. -/
theorem fold_silentRelease (c : Stream → Bool) (hc : ∀ st : Stream, c st.close = false) (l : List StreamNo) (s : State) :
    l.foldl (fun s n => if c s.streams[n] then State.silentRelease n s else s) s =
      releasedSilently (fun n => decide (n ∈ l) && c s.streams[n]) s := by
  induction l generalizing s with
  | nil => simp [releasedSilently_none]
  | cons n l ih =>
    simp only [List.foldl_cons]
    rw [ih]
    by_cases h : c s.streams[n] = true
    · rw [if_pos h, silentRelease_eq, releasedSilently_both]
      congr 1; funext m
      by_cases e : m = n
      · subst e; simp only [Fin.getElem_fin] at *; simp [releasedSilently, hc, h]
      · simp [releasedSilently, e]
    · rw [if_neg h]
      congr 1; funext m
      by_cases e : m = n
      · subst e; simp only [Fin.getElem_fin, Bool.not_eq_true] at *; simp [h]
      · simp [e]

/-- R69, R88: silent release of every stream at the close limit. -/
theorem releaseOverdue_eq (s : State) :
    State.releaseOverdue s = releasedSilently (fun n => s.streams[n].atCloseLimit) s := by
  have := fold_silentRelease Stream.atCloseLimit (fun st => by simp [Stream.atCloseLimit, Stream.close]) (List.finRange 8) s
  simpa [State.releaseOverdue] using this

/-- R72: silent release of every RELEASING stream. -/
theorem silentReleaseAll_eq (s : State) :
    State.silentReleaseAll s = releasedSilently (fun n => s.streams[n].state == .releasing) s := by
  have := fold_silentRelease (fun st => st.state == .releasing) (fun st => by simp [Stream.close]) (List.finRange 8) s
  simpa [State.silentReleaseAll] using this

end Sys2Proof.Machine
end

