-- ==== Sys2Proof/Laws/Taps.lean ====
section
/-! SUPPORT. The operations on taps, each said once: the "publisher gone" report, and the taking of a frame. -/

namespace Sys2Proof.Machine

open Sys2Proof Sys2Proof.Safety

/-- R41, R114: the tap that the report makes STALE. -/
theorem goesStale_iff (before after : SlotMap) (tap : Tap) :
    tap.goesStale before after = true ↔ TapGone before after tap := by
  simp [Tap.goesStale, publisherGone, TapGone, allSlots]

/-- R41: an event in the map, whole. -/
theorem changeMap_eq (f : SlotMap → SlotMap) (s : State) : State.changeMap f s = { s with
    map := f s.map
    taps := Vector.ofFn fun u =>
      if s.taps[u].goesStale s.map (f s.map) then { s.taps[u] with state := .stale } else s.taps[u]
    latch := s.latch.causes (tapFlags .stale fun u => s.taps[u].goesStale s.map (f s.map)) } := rfl

/-- The flags that it sets. -/
theorem hasFlag_stale (p : TapNo → Bool) (f : Flag) :
    hasFlag (tapFlags .stale p) f = match f with | .stale u => p u | _ => false := by
  rw [hasFlag_tapFlags]
  cases f <;> simp
  rw [Bool.eq_iff_iff, List.any_eq_true]
  simp only [List.mem_finRange, Bool.and_eq_true, decide_eq_true_eq, true_and]
  exact ⟨fun ⟨n, hn, e⟩ => e ▸ hn, fun h => ⟨_, h, rfl⟩⟩

/-- R109, R113: the accounting of a frame in its tap. -/
theorem account_eq (f : SlotFrame) (tap : Tap) : Tap.account f.seq (nextExpected f) tap = tapAccounted f tap := by
  cases h : tap.state <;> simp [Tap.account, tapAccounted, h]

theorem showsGap_eq (f : SlotFrame) (tap : Tap) : Tap.showsGap f.seq tap = tapGap f tap := rfl

/-- R108: which tap takes a publisher's frame, where no two follow it. -/
theorem tapFor_eq_some {s : State} {p : Nat × StreamNo} {u : TapNo} (h : State.tapFor p s = some u) :
    TapFollows s u p.1 p.2 := by
  have := List.find?_some h
  simpa [Tap.follows, TapFollows, and_assoc] using this

theorem tapFor_eq_none {s : State} {p : Nat × StreamNo} (h : State.tapFor p s = none) (u : TapNo) :
    ¬ TapFollows s u p.1 p.2 := by
  have := List.find?_eq_none.mp h u (List.mem_finRange u)
  simpa [Tap.follows, TapFollows, and_assoc] using this

theorem follows_unique {s : State} (h : TapsDiffer s) {a : Nat} {n : StreamNo} {t u : TapNo} (ht : TapFollows s t a n)
    (hu : TapFollows s u a n) : t = u := by
  by_contra e
  exact h t u e ht.1 hu.1 (by rw [ht.2.1, ht.2.2, hu.2.1, hu.2.2])

end Sys2Proof.Machine
end

