-- ==== Sys2Proof/Tests/Slice0.lean ====
section
/-! SUPPORT. Small tests: ill-formed commands that are refused, one step of each command with the result that the spec
gives, and for each statement with hypotheses a concrete state and operands that meet them. -/

namespace Sys2Proof.Tests

-- The kernel's evaluations wait for one another: run side by side they would each hold a thread.
set_option Elab.async false

open Sys2Proof Sys2Proof.Machine Sys2Proof.Safety

/-! ### Small states -/

/-- The state after a command. -/
def after (c : Instr) (s : State) : State :=
  match exec c s with
  | .next t => t
  | _ => s

/-- Station 20 in a station state, just after a boundary, with a request code expected. -/
def live (st : StationState) : State :=
  { State.reset with
    setup := { State.reset.setup with address := 20 }
    station := { State.reset.station with state := st }
    timer := { Timer.started with position := some 0, markTimer := .armed 13550 }
    line := State.reset.line.on
    port := { Port.reset with phase := .code } }

/-- Station 20 OFFLINE with a request code expected. -/
def off : State :=
  { State.reset with
    setup := { State.reset.setup with address := 20 }
    station := { State.reset.station with state := .offline }
    port := { Port.reset with phase := .code } }

/-- A break in progress. -/
def breaking (st : StationState) : State :=
  { live st with timer := { (live st).timer with breakInProgress := true, markTimer := .disarmed } }

/-- Stream 2 replaced. -/
def withStream (st : Stream) (s : State) : State := { s with streams := s.streams.set 2 st }

/-- Tap 4 replaced. -/
def withTap (t : Tap) (s : State) : State := { s with taps := s.taps.set 4 t }

/-- Entry 3 replaced, reached and not heard. -/
def withEntry (e : EntryState) (s : State) : State :=
  { s with map := s.map.set 3 { state := e, heard := false, reached := true } }

/-- A current attempt. -/
def withAttempt (t : Transmit) (s : State) : State := { s with line := { s.line with transmit := t } }

/-- A current segment. -/
def inSegment (g : Segment) (s : State) : State := { s with line := { s.line with segment := g } }

/-- The position. -/
def atBit (p : Nat) (s : State) : State := { s with timer := { s.timer with position := some p } }

/-- An announcement queue. -/
def withQueue (q : List Record) (s : State) : State := { s with ann := { s.ann with queue := q } }

/-- The buffers that are free. -/
def withFree (n : Nat) (s : State) : State := { s with freeBuffers := n }

/-- An answer with a commit before it. -/
def owing (c : Option Commit) (s : State) : State :=
  { s with pins := { s.pins with selLow := true }, port := { s.port with phase := .answer, owes := c } }

/-- An OPEN stream that holds slot 3. -/
def openStream : Stream := { Stream.reset 8 with state := .opened, wanted := 1, held := SlotSet.only 3 }

/-- A CLAIMING stream. -/
def claiming : Stream := { Stream.reset 8 with state := .claiming, wanted := 2 }

/-- A stream that is RELEASING slot 3. -/
def releasing : Stream := { openStream with state := .releasing }

/-- A LIVE tap on (5, 1) that expects number 7. -/
def liveTap : Tap := { Tap.reset with state := .live, source := 5, sourceStream := 1, expected := 7 }

/-- A DATA frame of publisher (5, 1). -/
def frame (seq : Byte) : SlotFrame := { sender := 5, stream := 1, seq, body := .data [1, 2] }

/-- An own frame of stream 2. -/
def ownFrame (body : FrameBody) : SlotFrame := { sender := 20, stream := 2, seq := 0, body }

/-- An own announcement of stream 2. -/
def ownAnn (kind : AnnouncementKind) : Announcement :=
  { kind, sender := 20, stream := 2, slots := SlotSet.only 3, aux := 0 }

/-- A dominant bit time. -/
def dominantBit : BitTime := { begins := .dominant, middle := .dominant }

/-- A recessive line, and then dominant bit times up to a break. -/
def breakStretch : List BitTime := bitTimes (List.replicate 5 true ++ List.replicate 12 false)

/-- Bits as levels, in place at 10 bit times. -/
def stretchAt (bits : List Bool) : Stretch := { offset := 10, bits := bitTimes bits }

/-- Bits as levels, behind a bit time that begins dominant and is recessive at its middle. -/
def stretchAfterGlitch (bits : List Bool) : Stretch :=
  { offset := 0, bits := { begins := .dominant, middle := .recessive } :: (bitTimes bits) }

/-- Own stream 2 OPEN in slot 3. -/
def holder (st : StationState) : State := withStream openStream (withEntry (.held 20 2 0 false) (live st))

/-- 10.6.1: station 14, ACTIVE with ATTN, tap 2 with a frame of sequence 23 and payload 17, 18, 19, and one behind it. -/
def pullExample : State :=
  { live .active with
    pins := { resetLow := false, selLow := true }
    latch := (EventLatch.reset.enable 1).causes Flag.ready.only
    freeBuffers := 62
    taps := (live .active).taps.set 2 { Tap.reset with
      state := .live, source := 5, sourceStream := 1, queue := [{ seq := 23, payload := [17, 18, 19] }, { seq := 24, payload := [] }] } }

/-- Own stream 2 with an OBJECT to send, and stream 5 RELEASING with nothing left. -/
def emptiedBehind : State :=
  { withQueue [.object 3, .release 5 0] (holder .active) with
    streams := (holder .active).streams.set 5 { Stream.reset 8 with state := .releasing } }

/-- Own stream 2 with a DATA frame in flight. -/
def sending : State :=
  withFree 63 (withAttempt (.driving (.slotFrame 3 (ownFrame (.data [9]))))
    (withStream { openStream with inFlight := some { payload := [9], discard := false } } (holder .active)))

/-! ### WellFormed refuses what no host and no line can show -/

theorem test_wf_known_code : Instr.wellFormed (.unknownRequest 16 []) = false := by decide
theorem test_wf_gap_stretch :
    Instr.wellFormed (.gapStart (some { offset := 10, bits := List.replicate 111 dominantBit })) = false := by decide
theorem test_wf_mark_tail_stretch :
    Instr.wellFormed (.slotStart 0 (some { offset := 20, bits := List.replicate 11 dominantBit })) = false := by decide
theorem test_wf_slot_stretch :
    Instr.wellFormed (.slotStart 1 (some { offset := 390, bits := List.replicate 11 dominantBit })) = false := by decide
theorem test_wf_window_stretch :
    Instr.wellFormed (.windowStart 1 (some { offset := 110, bits := List.replicate 11 dominantBit })) = false := by decide
theorem test_wf_expiry_run : Instr.wellFormed (.markTimerExpiry 12 none) = false := by decide
theorem test_wf_lone_start_run : Instr.wellFormed (.loneStart 12) = false := by decide
theorem test_wf_short_run_long : Instr.wellFormed (.shortRunEnd 12 false) = false := by decide
theorem test_wf_short_run_empty : Instr.wellFormed (.shortRunEnd 0 false) = false := by decide
theorem test_wf_attempt_run : Instr.wellFormed (.attemptStart 12) = false := by decide
theorem test_wf_attempt_stretch :
    Instr.wellFormed (.attemptStart 1 (some { offset := 0, bits := List.replicate 11 dominantBit })) = false := by decide
theorem test_wf_mismatch_bit : Instr.wellFormed (.arbitrationMismatch 380) = false := by decide
theorem test_wf_fault_bit : Instr.wellFormed (.transmitFault 380) = false := by decide
theorem test_wf_mark_offset : Instr.wellFormed (.markReceived 20 5) = false := by decide
theorem test_wf_mark_sender : Instr.wellFormed (.markReceived 2 63) = false := by decide
theorem test_wf_frame_sender : Instr.wellFormed (.slotFrameReceived 10 { frame 0 with sender := 0 }) = false := by decide
theorem test_wf_frame_payload :
    Instr.wellFormed (.slotFrameReceived 10 { frame 0 with body := .data (List.replicate 33 0) }) = false := by decide
theorem test_wf_claim_empty : Instr.wellFormed (.claimReceived 10 5 1 0) = false := by decide
theorem test_wf_claim_nine_slots : Instr.wellFormed (.claimReceived 10 5 1 0x1FF) = false := by decide
theorem test_wf_release_offset : Instr.wellFormed (.releaseReceived 20 5 1 1) = false := by decide
theorem test_wf_object_aux : Instr.wellFormed (.objectReceived 10 5 1 3 3) = false := by decide
theorem test_wf_error_bits : Instr.wellFormed (.receiveError 10 []) = false := by decide
theorem test_wf_accepts : Instr.wellFormed (.claimReceived 10 5 1 0xFF) = true := by decide

/-! ### One step of each command: the values are the spec's -/

/-- R141 gives 10673 as the CRC of the characters 49 to 57. -/
theorem test_crc_check_value : crcOf [49, 50, 51, 52, 53, 54, 55, 56, 57] = 10673 := by decide +kernel

/-- R184: the mark of station 20 is binary 11 and 010100. -/
theorem test_mark_char : markChar 20 = 0b11010100 := by decide

theorem test_setup_writes : (after (.setup [5, 62, 4, 15, 15, 32]) off).setup =
    { address := 62, bitRate := .mbit4, leaseLimit := 15, attemptReload := 15, receiveReserve := 32 } := by decide
theorem test_setup_refuses_63 : (after (.setup [5, 63, 4, 15, 15, 32]) off).port.answer = [3] := by decide
theorem test_start_listens : (after (.start [0]) off).station.state = .listening := by decide
theorem test_start_needs_offline : (after (.start [0]) (live .active)).port.answer = [2] := by decide
theorem test_stop_leaves_at_once : (after (.stop [0]) (live .active)).station.state = .offline := by decide +kernel
theorem test_soft_reset_pends : (after (.softReset [0]) (live .active)).port.pendingReset = true := by decide
theorem test_open_stream_claims : (after (.openStream [2, 2, 8]) off).streams[2].state = .claiming := by decide +kernel
theorem test_close_stream_releases : (after (.closeStream [1, 2]) (holder .active)).ann.queue =
    [.release 2 (SlotSet.only 3)] := by decide +kernel
theorem test_close_stream_without_slots :
    (after (.closeStream [1, 2]) (withStream claiming (live .active))).streams[2].state = .closed := by decide +kernel
theorem test_suspend : (after (.suspendStream [1, 2]) (holder .active)).streams[2].suspended = true := by decide +kernel
theorem test_resume_closed : (after (.resumeStream [1, 2]) (live .active)).port.answer = [2] := by decide
theorem test_push_takes_buffer : (after (.push [3, 2, 7, 7]) (holder .active)).freeBuffers = 63 := by decide +kernel
theorem test_push_keeps_reserve :
    (after (.push [3, 2, 7, 7]) (withFree 8 (holder .active))).port.answer = [5] := by decide +kernel
theorem test_flush_returns :
    (after (.flush [1, 2]) (withFree 62 (withStream { openStream with queue := [[1], [2]] } (live .active)))).freeBuffers
      = 64 := by decide +kernel
theorem test_tap_on_waits : (after (.tapOn [4, 4, 5, 1, 1]) (live .active)).taps[4].state = .waiting := by decide
theorem test_tap_on_duplicate : (after (.tapOn [4, 5, 5, 1, 1]) (withTap liveTap (live .active))).port.answer = [8] := by
  decide +kernel
theorem test_tap_off : (after (.tapOff [1, 4]) (withTap liveTap (live .active))).taps[4].state = .off := by decide
theorem test_pull_answers : (after (.pull [1, 4])
    (withTap { liveTap with queue := [{ seq := 9, payload := [5, 6] }] } (live .active))).port.answer = [1, 2, 9, 5, 6] := by
  decide +kernel
theorem test_pull_commit : (after .pullCommit (owing (some (.pull 4))
    (withTap { liveTap with queue := [{ seq := 9, payload := [] }], pullMark := true } (live .active)))).taps[4].queue = [] := by
  decide +kernel
theorem test_read_status : (after (.readStatus [0]) (live .muted)).port.answer =
    [1, 4, 20, 0, 0, 0, 0, 0, 0, 64, 0, 0, 0, 0] := by decide +kernel
theorem test_read_stream : (after (.readStream [1, 2]) (holder .active)).port.answer =
    [1, 3, 0, 1, 0, 0, 0, 8, 0, 0, 0, 0, 0, 0, 0, 0, 0, 0, 0, 0, 0, 8, 0, 0] := by decide +kernel
theorem test_read_tap : (after (.readTap [1, 4]) (withTap liveTap (live .active))).port.answer =
    [1, 2, 5, 1, 0, 0, 7, 0, 0, 0, 0, 0, 0] := by decide +kernel
theorem test_read_map : ((after (.readMap [0]) (holder .active)).port.answer.drop 7).take 2 = [0b10010100, 0b00100000] := by
  decide +kernel
theorem test_read_events : (after (.readEvents [0])
    { live .active with latch := EventLatch.reset.causes (Flag.loss 9).only }).port.answer =
      [1, 0, 0, 0, 0, 0, 0, 2, 0, 0, 0, 0, 0] := by decide +kernel
theorem test_read_events_commit : (after .readEventsCommit (owing (some .readEvents)
    { live .active with latch := (EventLatch.reset.causes Flag.ready.only).report })).latch.flags = 0 := by decide
theorem test_set_enables_raises_attn : (after (.setEnables [2, 0, 1])
    { live .active with latch := EventLatch.reset.causes Flag.ready.only }).latch.attn = true := by decide
theorem test_unknown_request : (after (.unknownRequest 99 [0]) (live .active)).port.answer = [9] := by decide
theorem test_sel_falls_drives_bit_7 : ((after .selFalls State.reset).sdo.map (·.getLsbD 7)) = some true := by decide
theorem test_prefix_in_initialising :
    (after (.readStatus []) (after .selFalls State.reset)).port.shifted = [0b10000000] := by decide
theorem test_deselected_is_high_impedance : (after .selRises (owing none (live .active))).sdo = none := by decide
theorem test_sel_rises : (after .selRises (owing none (live .active))).port = .reset := by decide
theorem test_pin_reset : (after .pinReset (holder .active)).station.state = .initialising := by decide
theorem test_pin_reset_release : (after .pinResetRelease (after .pinReset (owing none off))).port.held = true := by decide
theorem test_initialisation_end : (after .initialisationEnd State.reset).station.state = .offline := by decide
theorem test_break_cuts_data : (after (.breakRecognised none) sending).streams[2].queue = [[9]] := by decide +kernel
theorem test_line_dominant : (after .lineDominant (breaking .active)).timer.lineDominant = true := by decide
theorem test_heard_boundary_counts : (after .heardBoundary (breaking .active)).timer.cycleCounter = 1 := by decide +kernel
theorem test_lapse : (after (.lapse 3) (withEntry (.held 5 1 3 false) (breaking .active))).map[3].state = .quarantine 2 := by
  decide +kernel
theorem test_lapse_not_due :
    after (.lapse 3) (withEntry (.held 5 1 2 false) (breaking .active)) = withEntry (.held 5 1 2 false) (breaking .active) := by
  decide +kernel
theorem test_confirmed_opens : (after (.confirmed 3) (withEntry (.pending 20 2 1 false)
    (withStream { claiming with wanted := 1, pending := SlotSet.only 3 } (breaking .active)))).streams[2].state = .opened := by
  decide +kernel
theorem test_quarantine_end : (after (.quarantineEnd 3) (withEntry (.quarantine 1) (breaking .active))).map[3].state = .free := by
  decide +kernel
theorem test_backoff_end :
    (after (.backoffEnd 2) (withStream { claiming with attempts := 0, backoff := 1 } (breaking .active))).streams[2].attempts
      = 8 := by decide +kernel
theorem test_stalled : flagSet (after (.stalled 2) (withStream { claiming with stall := 63 } (breaking .active)))
    (.stalled 2) = true := by decide +kernel
theorem test_close_limit : (after (.closeLimit 2) (withStream { releasing with closeCount := 7 }
    (withEntry (.held 20 2 0 false) (breaking .active)))).map[3].state = .held 20 2 1 true := by decide +kernel
theorem test_fault_threshold : (after .faultThreshold { breaking .active with
    station := { (breaking .active).station with window := List.replicate 16 true } }).station.muteRemaining = 32 := by
  decide +kernel
theorem test_mute_period_end : (after .mutePeriodEnd { breaking .muted with
    station := { (breaking .muted).station with muteRemaining := 1 } }).station.state = .listening := by decide +kernel
theorem test_join_at_third : (after .join { breaking .listening with
    station := { (breaking .listening).station with listenCount := 2 } }).station.state = .active := by decide +kernel
theorem test_expiry_sends_break : (after (.markTimerExpiry 0 none) (live .active)).line.transmit = .driving .brk := by decide
theorem test_expiry_listening_is_silent : (after (.markTimerExpiry 0 none) (live .listening)).line.transmit = .idle := by decide
theorem test_lone_start : (after (.loneStart 0) (live .listening)).station.startedTrunk = true := by decide
theorem test_short_run_rearms : (after (.shortRunEnd 10 false) (after (.markTimerExpiry 4 none) (live .active))).timer.markTimer =
    .armed (13550 - 4 + 10 + 240) := by decide
theorem test_slot_start_keeps : (after (.slotStart 3 none) (holder .active)).line.transmit =
    .waiting (.slotFrame 3 (ownFrame .keep)) := by decide +kernel
theorem test_window_start_claims : (after (.windowStart 0 none) (withStream claiming (live .active))).ann.offer =
    some { kind := .claim, sender := 20, stream := 2, slots := 3, aux := 0 } := by decide +kernel
theorem test_gap_start : (after (.gapStart none) (live .active)).line.segment = .gap := by decide
theorem test_attempt_start : (after .attemptStart (inSegment .markTail (withAttempt (.waiting (.mark 20)) (live .active)))).line.txd
    = .dominant := by decide
/-- Station 20's mark is 0 11010100 1: bit 1 is recessive, and lost to a lower value. -/
theorem test_mismatch_loses : (after (.arbitrationMismatch 1) (withAttempt (.driving (.mark 20)) (live .active))).line.transmit =
    .settling (.mark 20) .lost := by decide
theorem test_transmit_fault : (after (.transmitFault 0) sending).station.faultMark = true := by decide +kernel
theorem test_break_attempt_complete :
    (after .breakAttemptComplete (withAttempt (.driving .brk) (breaking .active))).line.transmit = .idle := by decide
theorem test_attempt_complete_data : (after .attemptComplete sending).streams[2].nextSeq = 1 := by decide +kernel
theorem test_attempt_complete_claim :
    (after .attemptComplete (withAttempt (.driving (.announcement 0 (ownAnn .claim))) (withStream claiming (live .active)))).map[3].state
      = .pending 20 2 2 false := by decide +kernel
theorem test_mark_received : (after (.markReceived 2 5)
    { inSegment .markTail (live .active) with timer := { (live .active).timer with markSettled := false } }).timer.markSource = 5 := by
  decide
theorem test_slot_frame_counts_gap :
    (after (.slotFrameReceived 10 (frame 9)) (inSegment (.slot 3) (withTap liveTap (live .active)))).taps[4].gaps = 2 := by
  decide +kernel
theorem test_slot_frame_takes_own_slot :
    (after (.slotFrameReceived 10 (frame 9)) (inSegment (.slot 3) (holder .active))).streams[2].lost = 1 := by decide +kernel
theorem test_claim_received_objects :
    (after (.claimReceived 10 5 1 (SlotSet.only 3)) (inSegment (.window 0) (holder .active))).ann.queue = [.object 3] := by
  decide +kernel
theorem test_release_received : (after (.releaseReceived 10 5 1 (SlotSet.only 3))
    (inSegment (.window 0) (withEntry (.held 5 1 0 false) (live .active)))).map[3].state = .quarantine 2 := by decide +kernel
theorem test_object_received : (after (.objectReceived 10 5 1 3 2) (inSegment (.window 0) (holder .active))).map[3].state =
    .pending 5 1 2 false := by decide +kernel
theorem test_receive_error_counts_once :
    (after (.receiveError 10 (bitTimes (charBits 0xFF))) (after (.receiveError 10 (bitTimes (charBits 0xFF)))
      (inSegment (.slot 3) (live .active)))).line.rxErrors = 1 := by decide +kernel

/-! Rules that several commands meet in. -/

/-- 10.6.1: the bytes that the part sends in the PULL cut short, with the prefix 195 of an ACTIVE station with ATTN. -/
theorem test_pull_example_cut :
    (after (.pull [1, 2, 0, 0, 0]) pullExample).port.shifted = [195, 0, 0, 1, 3, 23] ∧
    (after (.pull [1, 2, 0, 0, 0]) pullExample).port.phase = .answer := by decide +kernel

/-- 10.6.1: the ninth byte commits, and the tenth reads 0. -/
theorem test_pull_example_whole :
    (after (.pull [1, 2, 0, 0, 0, 0, 0, 0, 0]) pullExample).port.shifted = [195, 0, 0, 1, 3, 23, 17, 18, 19, 0] ∧
    (after (.pull [1, 2, 0, 0, 0, 0, 0, 0]) pullExample).taps[2].queue.length = 1 := by decide +kernel

/-- R127: the levels of station 20's mark, 0 11010100 1, after a glitch that the middle of its bit does not confirm. -/
theorem test_levels_to_character :
    (Stretch.reception (stretchAfterGlitch [false, true, true, false, true, false, true, false, false, true])) =
      some { offset := 1, chars := [0b11010100] } := by decide +kernel

/-- R130: a run of 10 that ends is a FRAMING error; a run of 9 that ends with the stop bit is none. -/
theorem test_framing_run : (Stretch.received (stretchAt (List.replicate 10 false ++ [true]))).framing = true ∧
    (Stretch.received (stretchAt (charBits 0))).framing = false := by decide +kernel

/-- R138: a break on an idle line counts nothing. -/
theorem test_break_on_idle_line : (after (.breakRecognised (some { offset := 0, bits := breakStretch }))
    (inSegment (.slot 3) (live .active))).line.rxErrors = 0 := by decide +kernel

/-- R139: a break after char0 makes the frame TRUNCATED. -/
theorem test_break_truncates : (after (.breakRecognised (some { offset := 0, bits := bitTimes (charBits 5) ++ breakStretch }))
    (inSegment (.slot 3) (live .active))).line.rxErrors = 1 := by decide +kernel

/-- R11, R15: the lone start's break comes 5600 character times after the boundary; a FAULT at bit 3 arms the retry 24
character times later. -/
theorem test_lone_start_fault : (after (.transmitFault 3) (after (.loneStart 0) (live .listening))).timer.markTimer =
    .armed (56000 + 3 + 240) := by decide +kernel

/-- R11, R12: the same where the mark timer expires 5 bit times into that break: a FAULT at bit 8 arms the retry from the
fault, and the end of the run adds nothing. -/
theorem test_lone_start_fault_after_expiry :
    let s := live .listening
    let s := after (.loneStart 0) { s with timer := { s.timer with markTimer := .armed 56005 } }
    let t := after (.transmitFault 8) (after (.markTimerExpiry 5 none) s)
    t.timer.markTimer = .armed (56000 + 8 + 240) ∧ (after (.shortRunEnd 8 false) t).timer = t.timer := by decide +kernel

/-- R129: the run is 0 after a whole frame of another station, also where an own attempt settles at it, and 14 after the
own break; a window start takes over the run that the line shows. -/
theorem test_run_follows_line :
    let lost := withAttempt (.settling (.mark 20) .lost) (inSegment .markTail (live .active))
    let lost := { lost with line := { lost.line with dominantRun := 2 } }
    (after (.markReceived 2 5) lost).line.dominantRun = 0 ∧ (after (.markReceived 2 5) lost).line.transmit = .idle ∧
    (after .breakAttemptComplete (withAttempt (.driving .brk) (breaking .active))).line.dominantRun = 14 ∧
    (after (.windowStart 0 (some (stretchAt [true, false, false]))) (live .active)).line.dominantRun = 2 := by decide +kernel

/-- R127, R129, R138: station 20's KEEP frame is 0 01010001 1 in char0.  Another station has held the line dominant for 4
bit times before its first bit: the run reaches 7 at the mismatch of bit 2, and char0 is the other station's.  At bit 4,
after a recessive bit, the run is 2. -/
theorem test_run_on_line_at_first_bit :
    let s := inSegment (.slot 3) (withAttempt (.waiting (.slotFrame 3 (ownFrame .keep))) (live .active))
    let t := after (.attemptStart 4 (some { offset := 0, bits := bitTimes ([true, true, true, true, true, true] ++
      [false, false, false, false]) })) s
    let u := after (.arbitrationMismatch 2) t
    t.line.dominantRun = 4 ∧ u.line.dominantRun = 7 ∧ u.line.assembly = some { offset := 6, chars := [] } ∧
    (after (.arbitrationMismatch 2) (after .attemptStart s)).line.dominantRun = 3 ∧
    (after (.arbitrationMismatch 4) t).line.dominantRun = 2 := by decide +kernel

/-- R30: a slot lost with the lost note set is reported LOST, and without it TAKEN. -/
theorem test_loss_reasons :
    (State.frameLoss 3 { holder .active with line := { (holder .active).line with lostNote := true } }).map (·.reason) =
      some .lost ∧
    (State.frameLoss 3 (holder .active)).map (·.reason) = some .taken := by decide +kernel

/-- R68: an empty record behind an OBJECT is dropped at the next window start, and its stream is CLOSED. -/
theorem test_emptied_behind_object : (after (.windowStart 0 none) emptiedBehind).streams[5].state = .closed ∧
    (after (.windowStart 0 none) emptiedBehind).ann.queue = [.object 3] := by decide +kernel

/-! ### The hypotheses of the statements can be met -/

theorem takes_live (st : StationState) (h : st ≠ .initialising) : TakesRequests (live st) := ⟨rfl, rfl, h⟩

theorem takes_off : TakesRequests off := by unfold TakesRequests; decide

theorem no_claim (s : State) (h : s.ann.offer = none) (n : StreamNo) : ¬ ClaimFlies s n := by simp [ClaimFlies, h]

/-- A state with no attempt, no mark owed and no frame in flight. -/
theorem quiet_agrees {s : State} (h1 : s.line.transmit = .idle) (h2 : s.timer.markOwed = false) (h3 : s.line.txd = .recessive)
    (h4 : s.timer.breakInProgress = true → s.line.segment = .outside)
    (h5 : ∀ n : StreamNo, s.streams[n].inFlight = none) (h6 : s.ann.offer = none) : AttemptsAgree s :=
  ⟨by simp [h1], by simp [h2], by simp [h3], by simp [h1], h4, fun n => by rw [h5 n, h1]; rfl, by rw [h6, h1]; rfl⟩

theorem test_witness_SetupReplacesRecord :
    TakesRequests off ∧ off.station.state = .offline ∧
    (1 ≤ (1 : Byte).toNat ∧ ((1 : Byte), BitRate.mbit1) ∈ [((1 : Byte), BitRate.mbit1), (2, .mbit2), (4, .mbit4)] ∧
      2 ≤ (2 : Byte).toNat ∧ (0 : Byte).toNat ≤ 32) ∧
    ((62 : Byte).toNat ≤ 62 ∧ ((4 : Byte), BitRate.mbit4) ∈ [((1 : Byte), BitRate.mbit1), (2, .mbit2), (4, .mbit4)] ∧
      (15 : Byte).toNat ≤ 15 ∧ (32 : Byte).toNat ≤ 32) ∧
    ¬ (1 ≤ (0 : Byte).toNat) ∧ ¬ ((63 : Byte).toNat ≤ 62) ∧ ¬ ((33 : Byte).toNat ≤ 32) ∧
    TakesRequests (live .active) ∧ (live .active).station.state ≠ .offline :=
  ⟨takes_off, by decide, by decide, by decide, by decide, by decide, by decide, takes_live _ (by decide), by decide⟩

theorem test_witness_StartEntersListening :
    TakesRequests off ∧ off.station.state = .offline ∧ off.setup.address ≠ 0 ∧
    ({ off with setup := Setup.reset } : State).setup.address = 0 ∧
    TakesRequests (live .leaving) ∧ (live .leaving).station.state ≠ .offline :=
  ⟨takes_off, by decide, by decide, by decide, takes_live _ (by decide), by decide⟩

theorem test_witness_StopTakesOffline :
    TakesRequests (live .listening) ∧ TakesRequests (live .muted) ∧ TakesRequests (live .active) ∧
    (∀ n : StreamNo, (live .active).streams[n].state ≠ .releasing ∧ (live .active).streams[n].slots = 0 ∧
      ¬ ClaimFlies (live .active) n) ∧
    TakesRequests off ∧ TakesRequests (live .leaving) :=
  ⟨takes_live _ (by decide), takes_live _ (by decide), takes_live _ (by decide),
    fun n => ⟨by revert n; decide, by revert n; decide, no_claim _ rfl n⟩, takes_off, takes_live _ (by decide)⟩

theorem test_witness_StopStartsLeave :
    TakesRequests (holder .active) ∧ (holder .active).station.state = .active ∧
    ∃ n : StreamNo, (holder .active).streams[n].state = .releasing ∨
      (StreamIsOpen (holder .active).streams[n] ∧
        ((holder .active).streams[n].slots ≠ 0 ∨ ClaimFlies (holder .active) n)) :=
  ⟨by unfold TakesRequests; decide, by decide, 2, .inr ⟨by decide, .inl (by decide)⟩⟩

theorem test_witness_SoftResetWaitsForSel :
    TakesRequests off ∧ (owing none off).pins.selLow = true ∧
    ({ owing none off with port := { off.port with pendingReset := true } } : State).port.pendingReset = true :=
  ⟨takes_off, by decide, by decide⟩

theorem test_witness_OpenStreamBeginsClaiming :
    TakesRequests (holder .active) ∧ 1 ≤ (1 : Byte).toNat ∧ (8 : Byte).toNat ≤ 8 ∧
    ((holder .active).streams[(0 : StreamNo)].state = .closed ∧ (holder .active).station.state ≠ .leaving) ∧
    (holder .active).streams[(2 : StreamNo)].state ≠ .closed ∧
    TakesRequests (live .leaving) ∧ (live .leaving).station.state = .leaving :=
  ⟨by unfold TakesRequests; decide, by decide, by decide, by decide, by decide, takes_live _ (by decide), by decide⟩

theorem test_witness_CloseStreamByTable :
    TakesRequests (holder .muted) ∧
    (StreamIsOpen (holder .muted).streams[(2 : StreamNo)] ∧ (holder .muted).streams[(2 : StreamNo)].slots ≠ 0) ∧
    (let s := { withStream claiming (live .active) with ann := { queue := [], offer := some (ownAnn .claim) } };
      TakesRequests s ∧ StreamIsOpen s.streams[(2 : StreamNo)] ∧ ClaimFlies s 2) ∧
    (let s := withStream claiming (live .active);
      TakesRequests s ∧ StreamIsOpen s.streams[(2 : StreamNo)] ∧
        ¬ (s.streams[(2 : StreamNo)].slots ≠ 0 ∨ ClaimFlies s 2) ∧ s.station.state ≠ .leaving) ∧
    (TakesRequests (live .leaving) ∧ ¬ StreamIsOpen (live .leaving).streams[(2 : StreamNo)]) :=
  ⟨by unfold TakesRequests; decide, by decide,
    ⟨by unfold TakesRequests; decide, by decide, _, rfl, by decide, by decide⟩,
    ⟨by unfold TakesRequests; decide, by decide, not_or.mpr ⟨by decide, no_claim _ rfl 2⟩, by decide⟩,
    takes_live _ (by decide), by decide⟩

theorem test_witness_SuspendAndResume :
    TakesRequests (holder .active) ∧ StreamIsOpen (holder .active).streams[(2 : StreamNo)] ∧
    ¬ StreamIsOpen (holder .active).streams[(7 : StreamNo)] :=
  ⟨by unfold TakesRequests; decide, by decide, by decide⟩

theorem test_witness_PushChecksInOrder :
    TakesRequests (holder .active) ∧ (List.replicate 32 (0 : Byte)).length ≤ 32 ∧
    ¬ StreamIsOpen (holder .active).streams[(0 : StreamNo)] ∧
    SendQueueFull { openStream with queue := List.replicate 8 [] } ∧
    SendQueueFull { openStream with queue := List.replicate 7 [], inFlight := some { payload := [], discard := false } } ∧
    ¬ SendQueueFull { openStream with queue := List.replicate 7 [] } ∧
    StreamIsOpen (holder .active).streams[(2 : StreamNo)] ∧
    (withFree 8 (holder .active)).freeBuffers ≤ (withFree 8 (holder .active)).setup.receiveReserve ∧
    (withFree 9 (holder .active)).setup.receiveReserve < (withFree 9 (holder .active)).freeBuffers :=
  ⟨by unfold TakesRequests; decide, by decide, by decide, .inl (by decide), .inr ⟨by decide, _, rfl, rfl⟩,
    by simp [SendQueueFull, openStream, Stream.reset], by decide, by decide, by decide⟩

theorem test_witness_FlushAndTapOffReturnBuffers :
    TakesRequests (withTap liveTap (holder .active)) ∧
    (withTap liveTap (holder .active)).streams[(2 : StreamNo)].state ≠ .closed ∧
    (withTap liveTap (holder .active)).streams[(0 : StreamNo)].state = .closed ∧
    (withTap liveTap (holder .active)).taps[(4 : TapNo)].state ≠ .off ∧
    (withTap liveTap (holder .active)).taps[(11 : TapNo)].state = .off :=
  ⟨by unfold TakesRequests; decide, by decide, by decide, by decide, by decide⟩

theorem test_witness_TapOnChecksInOrder :
    TakesRequests (withTap liveTap off) ∧ 1 ≤ (1 : Byte).toNat ∧ (62 : Byte).toNat ≤ 62 ∧
    ((1 : Byte), OverflowPolicy.keepNewest) ∈ [((0 : Byte), OverflowPolicy.keepOldest), (1, .keepNewest)] ∧
    (withTap liveTap off).taps[(4 : TapNo)].state ≠ .off ∧ (withTap liveTap off).taps[(5 : TapNo)].state = .off ∧
    (∃ u : TapNo, (withTap liveTap off).taps[u].state ≠ .off ∧ (withTap liveTap off).taps[u].source = (5 : Byte).toNat ∧
      (withTap liveTap off).taps[u].sourceStream = 1) ∧
    ¬ ∃ u : TapNo, (withTap liveTap off).taps[u].state ≠ .off ∧ (withTap liveTap off).taps[u].source = (62 : Byte).toNat ∧
      (withTap liveTap off).taps[u].sourceStream = 7 :=
  ⟨by unfold TakesRequests; decide, by decide, by decide, by decide, by decide, by decide, by decide, by decide⟩

theorem test_witness_NumbersOutOfRangeRefused :
    TakesRequests off ∧ 8 ≤ (8 : Byte).toNat ∧ 12 ≤ (12 : Byte).toNat ∧ (0 : Byte).toNat = 0 ∧ 8 < (9 : Byte).toNat ∧
    62 < (63 : Byte).toNat ∧ 1 < (2 : Byte).toNat :=
  ⟨takes_off, by decide⟩

theorem test_witness_PullMarksHead :
    (TakesRequests off ∧ off.taps[(4 : TapNo)].state = .off) ∧
    (TakesRequests (withTap liveTap off) ∧ (withTap liveTap off).taps[(4 : TapNo)].queue = []) ∧
    (TakesRequests (withTap { liveTap with queue := [{ seq := 9, payload := [] }] } off) ∧
      (withTap { liveTap with queue := [{ seq := 9, payload := [] }] } off).taps[(4 : TapNo)].queue =
        { seq := 9, payload := [] } :: []) :=
  ⟨⟨takes_off, by decide⟩, ⟨by unfold TakesRequests; decide, by decide⟩, by unfold TakesRequests; decide, by decide⟩

theorem test_witness_PullCommitRemovesMarked :
    (let s := owing (some (.pull 4)) (withTap { liveTap with queue := [{ seq := 9, payload := [] }], pullMark := true } off);
      s.port.owes = some (.pull 4) ∧ s.taps[(4 : TapNo)].pullMark = true ∧
        s.taps[(4 : TapNo)].queue = { seq := 9, payload := [] } :: []) ∧
    (let s := owing (some (.pull 4)) (withTap liveTap off);
      s.port.owes = some (.pull 4) ∧ s.taps[(4 : TapNo)].pullMark = false) := by decide

theorem test_witness_SelRisesAbandons :
    ((owing none off).pins.selLow = true ∧ (owing none off).port.pendingReset = false ∧ (owing none off).port.owes = none) ∧
    (owing (some (.pull 4)) off).port.owes = some (.pull 4) ∧
    (owing (some .readEvents) off).port.owes = some .readEvents := by decide

theorem test_witness_SelFallsBeginsSelection :
    (State.reset.pins.selLow = false ∧ State.reset.pins.resetLow = false ∧ State.reset.port.phase = .deselected) ∧
    (let s := after .selFalls State.reset;
      requestOf (.readStatus []) = some (64, []) ∧ (Instr.readStatus []).wellFormed = true ∧ s.port.phase = .code ∧
        s.port.held = false ∧ s.pins.selLow = true ∧ s.pins.resetLow = false) := by decide

theorem test_witness_PortAnswersBeforeBlocks :
    (requestOf (.start [0]) = some (17, 0 :: []) ∧ (Instr.start [0]).wellFormed = true ∧ completes 0 [] ∧
      ({ live .active with station := Station.reset } : State).station.state = .initialising) ∧
    (requestOf (.unknownRequest 99 [41]) = some (99, 41 :: []) ∧ (Instr.unknownRequest 99 [41]).wellFormed = true ∧
      completes 41 [] ∧ (99 : Byte) ∉ requestCodes) ∧
    (completes 40 (List.replicate 40 0) ∧ (17 : Byte) ∈ requestCodes ∧ ¬ countFits 17 40 ∧ ¬ countFits 36 0 ∧
      ¬ countFits 36 34) ∧
    (live .active).port.phase = .code ∧ (live .active).port.held = false := by
  refine ⟨⟨rfl, rfl, .inl ⟨by decide, by decide⟩, rfl⟩, ⟨rfl, by decide, .inr ⟨by decide, rfl⟩, by decide⟩,
    ⟨.inl ⟨by decide, by decide⟩, by decide, ?_, ?_, ?_⟩, rfl, rfl⟩ <;> unfold countFits <;> decide

theorem test_witness_IncompleteRequestReachesNoBlock :
    requestOf (.setup []) = some (16, []) ∧ (Instr.setup []).wellFormed = true ∧
    requestOf (.setup [5, 1]) = some (16, [5, 1]) ∧ (Instr.setup [5, 1]).wellFormed = true ∧
    (5 : Byte).toNat ≤ 40 ∧ ([1] : List Byte).length < (5 : Byte).toNat ∧
    (off.port.phase = .code ∧ off.port.held = false ∧ State.reset.port.phase = .deselected) ∧
    (requestOf (.push []) = some (36, []) ∧ requestOf (.unknownRequest 2 [7]) = some (2, [7]) ∧
      ([2, 7] : List Byte) = [] ++ 2 :: [7] ∧ requestOf (.push [2, 7]) = some (36, [2, 7]) ∧
      (Instr.unknownRequest 2 [7]).wellFormed = true) ∧
    (let s := after (.pull [1, 2]) pullExample;
      s.port.phase = .answer ∧ s.port.held = false ∧ s.port.answered + 1 < s.port.answer.length ∧
        s.port.answer[s.port.answered]? = some 1 ∧ s.pins.selLow = true ∧ s.pins.resetLow = false) ∧
    (let s := after (.pull [1, 2, 0, 0, 0, 0, 0]) pullExample;
      s.port.phase = .answer ∧ s.port.answered + 1 = s.port.answer.length ∧ s.port.answer[s.port.answered]? = some 19 ∧
        s.port.owes = some (.pull 2)) ∧
    (let s := after (.start [0]) off;
      s.port.phase = .answer ∧ s.port.answered + 1 = s.port.answer.length ∧ s.port.owes = none ∧
        (after (.setup []) s).port.phase = .filler) := by decide +kernel

theorem test_witness_Records :
    TakesRequests (withEntry (.held 62 7 14 false) off) ∧
    ∀ k : Slot, (mapItems (withEntry (.held 62 7 14 false) off).map[k].state).2.1 < 64 ∧
      (mapItems (withEntry (.held 62 7 14 false) off).map[k].state).2.2.2 < 16 :=
  ⟨by unfold TakesRequests; decide, by decide⟩

theorem test_witness_pull_record :
    TakesRequests pullExample ∧ pullExample.taps[(2 : TapNo)].state ≠ .off ∧
    pullExample.taps[(2 : TapNo)].queue = { seq := 23, payload := [17, 18, 19] } :: [{ seq := 24, payload := [] }] ∧
    (let s := withTap { liveTap with queue := [{ seq := 9, payload := [] }] } off;
      TakesRequests s ∧ s.taps[(4 : TapNo)].state ≠ .off ∧ s.taps[(4 : TapNo)].queue = { seq := 9, payload := [] } :: []) :=
  ⟨by unfold TakesRequests; decide, by decide, by decide, by unfold TakesRequests; decide, by decide⟩

theorem test_witness_ReadEventsCommitClears : (owing (some .readEvents) off).port.owes = some .readEvents := rfl

theorem test_witness_SetEnablesWritesAll : TakesRequests off ∧ (15 : Byte).toNat < 16 ∧ 16 ≤ (16 : Byte).toNat :=
  ⟨takes_off, by decide⟩

theorem test_witness_attn : AttnFollows State.reset := by unfold AttnFollows; decide

theorem test_witness_PinResetAndInitialisation :
    (after .pinReset off).pins.resetLow = true ∧ State.reset.station.state = .initialising ∧
    State.reset.pins.resetLow = false := by decide

theorem test_witness_BreakRecognition :
    (sending.timer.running = true ∧ sending.timer.breakInProgress = false ∧
      cutAttempt sending.line.transmit = some (.slotFrame 3 (ownFrame (.data [9])))) ∧
    cutAttempt (live .active).line.transmit = none ∧ cutAttempt (.driving .brk) = none ∧
    (breaking .active).timer.running = true ∧ (breaking .active).timer.breakInProgress = true := by decide

/-- A heard boundary for each of the commands that can be one. -/
theorem test_witness_heard_boundaries :
    TakesBoundary (breaking .active) .heard .heardBoundary ∧
    TakesBoundary (withEntry (.held 5 1 3 false) (breaking .active)) .heard (.lapse 3) ∧
    TakesBoundary (withEntry (.pending 5 1 1 false) (breaking .active)) .heard (.confirmed 3) ∧
    TakesBoundary (withEntry (.quarantine 1) (breaking .active)) .heard (.quarantineEnd 3) ∧
    TakesBoundary (withStream { claiming with attempts := 0, backoff := 1 } (breaking .active)) .heard (.backoffEnd 2) ∧
    TakesBoundary (withStream { claiming with stall := 63 } (breaking .active)) .heard (.stalled 2) ∧
    TakesBoundary (withStream { releasing with closeCount := 7 } (breaking .active)) .heard (.closeLimit 2) ∧
    TakesBoundary { breaking .leaving with
      station := { (breaking .leaving).station with window := List.replicate 16 true } } .heard .faultThreshold ∧
    TakesBoundary { breaking .muted with
      station := { (breaking .muted).station with muteRemaining := 1 } } .heard .mutePeriodEnd ∧
    TakesBoundary { breaking .listening with
      station := { (breaking .listening).station with listenCount := 2 } } .heard .join := by
  have due (st : StationState) : BoundaryDue (breaking st) .heard := ⟨rfl, rfl⟩
  have allows (s : State) : LineAllows s .heard := fun h => by cases h
  exact ⟨⟨due _, rfl⟩, ⟨due .active, allows _, 5, 1, 3, false, rfl, rfl, rfl, rfl⟩,
    ⟨due .active, allows _, 5, 1, 1, false, rfl, by decide⟩, ⟨due .active, allows _, 1, rfl, by decide⟩,
    ⟨due .active, allows _, by decide, rfl⟩, ⟨due .active, allows _, by decide⟩, ⟨due .active, allows _, by decide⟩,
    ⟨due .leaving, allows _, rfl, by decide⟩, ⟨due .muted, allows _, rfl, by decide⟩, due .listening, rfl, rfl, by decide⟩

theorem test_witness_synthesized_boundary : TakesBoundary (live .muted) .synthesized (.markTimerExpiry 0 none) ∧
    TakesBoundary (withEntry (.quarantine 1) (live .muted)) .synthesized (.quarantineEnd 3) :=
  ⟨⟨⟨rfl, rfl, by decide, rfl⟩, rfl, rfl⟩, ⟨rfl, rfl, by decide, rfl⟩, fun _ => rfl, 1, rfl, by decide⟩

theorem test_witness_BoundaryOpensCycle : AttemptsAgree (breaking .active) ∧ AttemptsAgree (live .muted) :=
  ⟨quiet_agrees rfl rfl rfl (by decide) (by decide) rfl, quiet_agrees rfl rfl rfl (by decide) (by decide) rfl⟩

theorem test_witness_NamedBoundariesNeedTheirCause :
    NamesBoundary .heardBoundary ∧ ∀ kind, ¬ TakesBoundary State.reset kind .heardBoundary :=
  ⟨trivial, fun kind h => by cases kind <;> exact Bool.false_ne_true h.1.1⟩

theorem test_witness_TimersExpire :
    ((live .listening).timer.running = true ∧ (live .listening).timer.breakInProgress = false ∧
      (live .listening).timer.markTimer ≠ .disarmed ∧ (live .listening).station.state = .listening ∧
      (live .listening).line.transmit = .idle) ∧
    ((live .leaving).mayDrive = true ∧ (live .leaving).line.transmit = .idle) ∧
    (sending.mayDrive = true ∧ sending.line.transmit ≠ .idle ∧ sending.timer.markTimer ≠ .disarmed) := by decide

theorem test_witness_ShortRunEnds :
    AttemptsAgree (live .listening) ∧ (live .listening).line.receiver = true ∧
    (live .listening).timer.breakInProgress = false ∧ ∀ a p, (live .listening).line.transmit ≠ .settling a p :=
  ⟨quiet_agrees rfl rfl rfl (by decide) (by decide) rfl, rfl, rfl, fun a p h => by cases h⟩

theorem test_witness_SettlingAttemptEnds :
    let s := withAttempt (.settling (.slotFrame 3 (ownFrame .keep)) .fault) (holder .active)
    s.line.transmit = .settling (.slotFrame 3 (ownFrame .keep)) .fault ∧ s.mayDrive = true ∧ s.line.receiver = true ∧
    s.timer.breakInProgress = false ∧ s.line.condition = .opened ∧ (inSegment (.slot 3) s).line.segment = .slot 3 ∧
    StartReported s (slotStartAt 0) ∧ StartReported s (windowStartAt 3) ∧ StartReported s gapStartAt :=
  ⟨rfl, rfl, rfl, rfl, rfl, rfl, ⟨rfl, rfl, 0, rfl, by decide⟩, ⟨rfl, rfl, 0, rfl, by decide⟩, rfl, rfl, 0, rfl, by decide⟩

theorem test_witness_SlotStartSupplies :
    StartReported (holder .active) (slotStartAt 3) ∧ (holder .active).line.transmit = .idle ∧
    ((holder .active).mayDrive = true ∧ (holder .active).map[(3 : Slot)].state.ownHeld (holder .active).setup.address = some 2 ∧
      (holder .active).streams[(2 : StreamNo)].state ≠ .closed ∧ (holder .active).streams[(2 : StreamNo)].queue = []) ∧
    (let s := withStream { openStream with queue := [[7]] } (holder .active);
      StreamIsOpen s.streams[(2 : StreamNo)] ∧ s.streams[(2 : StreamNo)].suspended = false ∧
        s.streams[(2 : StreamNo)].queue = [7] :: []) ∧
    (StartReported (atBit 12429 (live .listening)) (slotStartAt 31) ∧ (live .listening).mayDrive = false) :=
  ⟨⟨rfl, rfl, 0, rfl, by decide⟩, rfl, by decide, by decide, ⟨rfl, rfl, 12429, rfl, by decide⟩, rfl⟩

theorem test_witness_GapStartEndsWindow :
    StartReported (atBit 13309 (live .active)) gapStartAt ∧ ∀ a p, (atBit 13309 (live .active)).line.transmit ≠ .settling a p :=
  ⟨⟨rfl, rfl, 13309, rfl, by decide⟩, fun a p h => by cases h⟩

theorem test_witness_WindowOffersRecord :
    (let s := withQueue [.object 0, .release 1 8, .object 3, .release 5 0] (holder .active);
      WindowAsks s 3 ∧ s.ann.queue.filterMap (livePart s) = [] ++ Record.object 3 :: [] ∧ ownStreamAt s 3 = some 2 ∧
        Emptied s 5) ∧
    (let s := withQueue [.release 1 8, .object 0, .release 2 9] (withStream releasing (holder .leaving));
      WindowAsks s 0 ∧ s.ann.queue.filterMap (livePart s) = [] ++ Record.release 2 8 :: [] ∧
        ∀ j, Record.object j ∉ s.ann.queue.filterMap (livePart s)) := by
  refine ⟨⟨⟨⟨rfl, rfl, 0, rfl, by decide⟩, rfl, rfl⟩, by decide +kernel, by decide, 0, ?_, ?_⟩,
    ⟨⟨rfl, rfl, 0, rfl, by decide⟩, rfl, rfl⟩, by decide +kernel, by decide +kernel⟩
  · simp [withQueue]
  · unfold IsPart; decide +kernel

theorem test_witness_WindowOffersNothing :
    (StartReported (live .listening) (windowStartAt 0) ∧ StartReported (live .muted) (windowStartAt 3) ∧
      (live .listening).line.transmit = .idle ∧ (live .listening).mayDrive = false ∧ (live .muted).mayDrive = false) ∧
    (let s := withAttempt (.waiting (.mark 20)) (live .active);
      StartReported s (windowStartAt 0) ∧ s.line.transmit = .waiting (.mark 20)) := by
  have reported (s : State) (w : WindowNo) (h : s.timer = (live .active).timer) : StartReported s (windowStartAt w) :=
    ⟨by rw [h]; rfl, by rw [h]; rfl, 0, by rw [h]; rfl, by revert w; decide⟩
  exact ⟨⟨reported _ _ rfl, reported _ _ rfl, rfl, rfl, rfl⟩, reported _ _ rfl, rfl⟩

theorem test_witness_WindowOffersClaim :
    (let s := withStream claiming (live .active);
      WindowAsks s 0 ∧ NoLiveObject s ∧ (∀ n set, Record.release n set ∉ s.ann.queue) ∧ Eligible s 2 ∧
        ∀ m : StreamNo, m < 2 → ¬ Eligible s m) ∧
    (WindowAsks (live .active) 3 ∧ ∀ n : StreamNo, ¬ Eligible (live .active) n) ∧
    (let s := withQueue [.release 2 0] (withStream { claiming with state := .releasing } (live .leaving));
      WindowAsks s 0 ∧ (∀ k : Slot, Record.object k ∉ s.ann.queue) ∧ IsPart s 2 0 0 ∧
        ∀ n : StreamNo, s.streams[n].state = .closed ∨ n = 2) := by
  have asks (s : State) (w : WindowNo) (h1 : s.timer = (live .active).timer) (h2 : s.line.transmit = .idle)
      (h3 : s.mayDrive = true) : WindowAsks s w :=
    ⟨⟨by rw [h1]; rfl, by rw [h1]; rfl, 0, by rw [h1]; rfl, by revert w; decide⟩, h2, h3⟩
  refine ⟨⟨asks _ _ rfl rfl rfl, fun _ hk => absurd hk List.not_mem_nil, fun _ _ hk => absurd hk List.not_mem_nil, ?_, ?_⟩,
    ⟨asks _ _ rfl rfl rfl, ?_⟩, asks _ _ rfl rfl rfl, by decide, ?_, by decide⟩
  · unfold Eligible; decide +kernel
  · unfold Eligible; decide +kernel
  · unfold Eligible; decide +kernel
  · unfold IsPart; decide

theorem test_witness_AttemptCourse :
    (let s := inSegment .markTail (withAttempt (.waiting (.mark 20)) (live .active));
      s.line.transmit = .waiting (.mark 20) ∧ s.mayDrive = true ∧ s.line.receiver = true ∧ s.line.segment ≠ .outside ∧
        s.line.condition = .opened ∧ s.line.condition ≠ .ended) ∧
    begun (some (stretchAt [true, false, false])) ≠ none ∧ begun (some (stretchAt [true])) = none ∧
    (withAttempt (.waiting (.mark 20)) (live .muted)).mayDrive = false ∧
    ((Attempt.mark 20).bits[9]? = some true ∧ (Attempt.mark 20).bits[0]? ≠ some true) ∧
    (Attempt.slotFrame 3 (ownFrame .keep)).bits[19]? = some true ∧
    (((Attempt.slotFrame 3 (ownFrame .keep)).bits.take 2).reverse.takeWhile fun b => !b).length = 2 := by decide +kernel

theorem test_witness_TransmitFaultEndsAttempt :
    sending.line.transmit = .driving (.slotFrame 3 (ownFrame (.data [9]))) ∧
    (Attempt.slotFrame 3 (ownFrame (.data [9]))).bits[0]? = some false ∧ Attempt.brk.bits[13]? = some false := by decide +kernel

theorem test_witness_SlotFrameCompletes :
    TapsDiffer sending ∧ sending.line.transmit = .driving (.slotFrame 3 (ownFrame (.data [9]))) ∧
    (ownFrame (.data [9])).body = .data [9] ∧
    sending.streams[(2 : StreamNo)].inFlight = some { payload := [9], discard := false } ∧ 0 < sending.freeBuffers ∧
    (withFree 0 sending).freeBuffers = 0 ∧ (ownFrame .keep).body = .keep := by
  refine ⟨?_, by decide⟩
  unfold TapsDiffer; decide

theorem test_witness_own_announcements :
    (withAttempt (.driving (.announcement 0 (ownAnn .claim))) (live .active)).line.transmit =
      .driving (.announcement 0 (ownAnn .claim)) ∧ (ownAnn .claim).kind = .claim ∧ (ownAnn .release).kind = .release ∧
    (ownAnn .object).kind = .object := by decide

theorem test_witness_MarksAndReceiveErrors :
    (Delivers (inSegment .markTail (live .active)) 19 ∧ (inSegment .markTail (live .active)).line.segment = .markTail) ∧
    (let s := inSegment (.slot 3) (live .active);
      s.line.receiver = true ∧ s.line.segment ≠ .outside ∧ s.line.condition ≠ .discarding ∧
        Stretch.reception { offset := 20, bits := bitTimes (charBits 0) } = some { offset := 20, chars := [0] } ∧
        judgeReception s.line.segment { offset := 20, chars := [0] } = .error .misplaced ∧
        judgeReception s.line.segment { offset := 19, chars := [0] } = .error .format ∧
        (Stretch.received (stretchAt (List.replicate 11 false ++ [true]))).framing = true) :=
  ⟨⟨⟨rfl, .inl rfl, rfl, by decide⟩, rfl⟩, by decide +kernel⟩

theorem test_witness_SlotFrameHeard :
    let s := inSegment (.slot 3) (withTap liveTap (holder .active))
    TapsDiffer s ∧ Delivers s 19 ∧ s.line.segment = .slot 3 ∧ frameLegal (frame 9) = true ∧
    (frame 9).sender ≠ s.setup.address := by
  refine ⟨?_, ⟨rfl, .inl rfl, rfl, by decide⟩, rfl, by decide, by decide⟩
  unfold TapsDiffer; decide

theorem test_witness_OwnAddressClashes :
    (Delivers (inSegment (.slot 3) (live .listening)) 0 ∧ frameLegal (ownFrame .keep) = true ∧
      (ownFrame .keep).sender = (live .listening).setup.address) ∧
    (Delivers (inSegment (.window 3) (live .muted)) 0 ∧ 1 ≤ (live .muted).setup.address ∧ (live .muted).setup.address ≤ 62 ∧
      1 ≤ slotCount 1 ∧ slotCount 0xFF ≤ 8) :=
  ⟨⟨⟨rfl, .inl rfl, rfl, by decide⟩, by decide⟩, ⟨rfl, .inl rfl, rfl, by decide⟩, by decide⟩

theorem test_witness_foreign_announcements :
    let s := inSegment (.window 0) (holder .active)
    Delivers s 10 ∧ s.line.segment = .window 0 ∧ (5 : Nat) ≠ s.setup.address ∧ 1 ≤ slotCount (SlotSet.only 3) ∧
    slotCount 0xFF ≤ 8 :=
  ⟨⟨rfl, .inl rfl, rfl, by decide⟩, rfl, by decide, by decide, by decide⟩

theorem test_witness_SentFramesAreReadBack :
    frameLegal { frame 255 with sender := 62, body := .data (List.replicate 32 255) } = true ∧
    announcementLegal { ownAnn .object with aux := 2 } = true ∧ announcementLegal { ownAnn .claim with slots := 0xFF } = true := by
  decide

/-- The invariants of the last statements together, at reset, where a step gives a next state. -/
theorem test_witness_invariants :
    MapAndStreamsAgree State.reset ∧ BuffersAddUp State.reset ∧ QueuesFit State.reset ∧ TapsDiffer State.reset ∧
    StationInRange State.reset ∧ EntriesInRange State.reset ∧ StreamsInRange State.reset ∧
    step State.reset = .next State.reset := by
  refine ⟨⟨quiet_agrees rfl rfl rfl (by decide) (by decide) rfl, fun _ => ?_, ⟨fun n _ => by revert n; decide, ?_, ?_, ?_, ?_⟩, ?_⟩, by unfold BuffersAddUp; decide,
    ?_, ?_, ⟨by decide, fun h => absurd (.inl rfl) h, by decide, by decide, by decide, by decide, by decide, by decide, by decide, ?_, ?_⟩, ?_,
    ⟨by decide, by decide, by unfold spoken; decide, by unfold spoken; decide, by decide, by decide, fun a h => (by cases h),
      by decide, by decide, List.nodup_nil⟩, rfl⟩
  · exact ⟨rfl, rfl, rfl, by unfold MapClear; decide, by decide, rfl⟩
  · intro a h; cases h
  · intro n x h; cases h
  · intro a h; cases h
  · exact List.nodup_nil
  · unfold ListsMirrorMap; decide +kernel
  · unfold QueuesFit; decide
  · unfold TapsDiffer; decide
  · unfold Resting; decide
  · unfold Resting; decide
  · refine ⟨by decide, by decide, fun k => ?_⟩
    have : State.reset.map[k].state = .free := by revert k; decide
    rw [this]; trivial

/-- Station 20 in MUTED with an own detached entry that is at its last silent boundary. -/
def mutedOwner : State :=
  let s := withEntry (.held 20 2 3 true) (live .muted)
  { s with station := { s.station with muteRemaining := 32, listenCount := 3 } }

theorem test_witness_StepsKeepRanges :
    AttemptsAgree mutedOwner ∧ RestsQuietly mutedOwner ∧ StationInRange mutedOwner ∧ EntriesInRange mutedOwner ∧
    step mutedOwner = .next mutedOwner := by
  have running : ¬ Resting mutedOwner := by unfold Resting; decide
  refine ⟨quiet_agrees rfl rfl rfl (by decide) (by decide) rfl, fun h => absurd h running,
    ⟨by decide, fun _ => by decide, by decide, by decide, by decide, by decide, by decide, by decide, by decide,
      iff_of_true rfl running, iff_of_true rfl running⟩,
    ⟨by decide, by decide, fun k => ?_⟩, rfl⟩
  have : mutedOwner.map[k].state = .free ∨ mutedOwner.map[k].state = .held 20 2 3 true := by revert k; decide
  rcases this with h | h <;> rw [h]
  · trivial
  · exact ⟨by decide, by decide, fun _ => rfl⟩

end Sys2Proof.Tests
end

section
/-! SUPPORT. The ranges that every step keeps: what of the state they are about, and which operations leave that as it is. -/

namespace Sys2Proof.Proofs

open Sys2Proof Sys2Proof.Machine Sys2Proof.Safety

/-! ### What the ranges are about -/

/-- The part of the state that the ranges speak of.  The fault mark, the heard and reached marks, and all that the line
and the streams hold are outside it. -/
structure RangeView where
  setup    : Setup
  station  : Station
  running  : Bool
  receiver : Bool
  entries  : Vector EntryState 32

/-- That part of a state. -/
def rangeView (s : State) : RangeView where
  setup    := s.setup
  station  := { s.station with faultMark := false }
  running  := s.timer.running
  receiver := s.line.receiver
  entries  := s.map.map Entry.state

/-- An update that writes none of the five fields of the view. -/
theorem rangeView_congr {s t : State} (hs : t.setup = s.setup) (hst : t.station = s.station)
    (ht : t.timer.running = s.timer.running) (hl : t.line.receiver = s.line.receiver) (hm : t.map = s.map) :
    rangeView t = rangeView s := by
  simp only [rangeView, hs, hst, ht, hl, hm]

/-! ### Updates of one block -/

section Updates
variable (s : State)

@[simp] theorem rangeView_latches (f : Flag) : rangeView (State.latches f s) = rangeView s := rfl
@[simp] theorem rangeView_changing (f : State → State) : rangeView (State.changing f s) = rangeView (f s) := rfl
@[simp] theorem rangeView_updateStreams (f : StreamNo → Stream → Stream) :
    rangeView (State.updateStreams f s) = rangeView s := rfl
@[simp] theorem rangeView_appendRecords (rs : List Record) : rangeView (State.appendRecords rs s) = rangeView s := rfl
@[simp] theorem rangeView_openSegment (g : Segment) : rangeView (State.openSegment g s) = rangeView s := rfl
@[simp] theorem rangeView_atRun (run : Nat) : rangeView (State.atRun run s) = rangeView s := rfl
@[simp] theorem rangeView_noteRun (rx : Option Stretch) : rangeView (State.noteRun rx s) = rangeView s := rfl
@[simp] theorem rangeView_setTransmit (x : Transmit) (l : Level) : rangeView (State.setTransmit x l s) = rangeView s := rfl
@[simp] theorem rangeView_endAttempt : rangeView (State.endAttempt s) = rangeView s := rfl
@[simp] theorem rangeView_atPosition (p : Nat) : rangeView (State.atPosition p s) = rangeView s := rfl
@[simp] theorem rangeView_clearLostNote : rangeView (State.clearLostNote s) = rangeView s := rfl
@[simp] theorem rangeView_assembled (a : Attempt) (bit : Nat) : rangeView (State.assembled a bit s) = rangeView s := rfl

end Updates

/-! ### Operations of the line unit and the cycle timer -/

section Operations
variable (s : State)

@[simp] theorem rangeView_rxError : rangeView (State.rxError s) = rangeView s := by
  rw [rxError_eq]
  exact rangeView_congr rfl rfl (by simp only [errorTimer]; split <;> rfl) rfl rfl

@[simp] theorem rangeView_beginCharacter (r : Reception) : rangeView (State.beginCharacter r s) = rangeView s := by
  unfold State.beginCharacter
  split
  · split
    · rfl
    · exact rangeView_rxError s
    · rfl
  · rfl

@[simp] theorem rangeView_noteReception (rx : Option Stretch) : rangeView (State.noteReception rx s) = rangeView s := by
  unfold State.noteReception
  split
  · rfl
  · dsimp only
    split <;> exact rangeView_beginCharacter s _

@[simp] theorem rangeView_noCharacter : rangeView (State.noCharacter s) = rangeView s := by
  unfold State.noCharacter; split <;> rfl

@[simp] theorem rangeView_closeSegment (rx : Option Stretch) : rangeView (State.closeSegment rx s) = rangeView s := by
  simp [State.closeSegment, apply_ite rangeView]

@[simp] theorem rangeView_handBreak : rangeView (State.handBreak s) = rangeView s := by
  unfold State.handBreak; split <;> rfl

@[simp] theorem rangeView_frameReturns (f : SlotFrame) : rangeView (State.frameReturns f s) = rangeView s := by
  unfold State.frameReturns
  split
  · rw [requeue_eq]; rfl
  · rfl

@[simp] theorem rangeView_attemptReturns (a : Attempt) : rangeView (State.attemptReturns a s) = rangeView s := by
  rw [(attemptReturns_spec a s).2]; rfl

@[simp] theorem rangeView_attemptFault (a : Attempt) : rangeView (State.attemptFault a s) = rangeView s := by
  have marked (u : State) : rangeView u.markFault = rangeView u := by
    unfold State.markFault; split <;> rfl
  rw [State.attemptFault, marked, rangeView_attemptReturns]

@[simp] theorem rangeView_attemptLost (a : Attempt) : rangeView (State.attemptLost a s) = rangeView s := by
  cases a with
  | slotFrame k f => exact rangeView_frameReturns _ f
  | announcement w c => simp only [State.attemptLost]; split <;> rfl
  | brk => rfl
  | mark => rfl

@[simp] theorem rangeView_settle : rangeView (State.settle s) = rangeView s := by
  unfold State.settle; split <;> simp

@[simp] theorem rangeView_cut : rangeView (State.cut s) = rangeView s := by
  unfold State.cut; split <;> simp

@[simp] theorem rangeView_settleMark : rangeView (State.settleMark s) = rangeView s := by
  unfold State.settleMark; split <;> rfl

@[simp] theorem rangeView_takeMark (sender : Nat) : rangeView (State.takeMark sender s) = rangeView s := by
  unfold State.takeMark; split <;> rfl

@[simp] theorem rangeView_rearm : rangeView (State.rearm s) = rangeView s := by
  unfold State.rearm; split <;> rfl

@[simp] theorem rangeView_breakFault (bit : Nat) : rangeView (State.breakFault bit s) = rangeView s := by
  simp only [State.breakFault]
  split
  · rfl
  · rw [rangeView_rearm]; rfl

@[simp] theorem rangeView_openCycle (kind : BoundaryKind) : rangeView (State.openCycle kind s) = rangeView s := by
  have ended : rangeView (State.endBreak s) = rangeView s := by unfold State.endBreak; split <;> rfl
  have marks (u : State) : rangeView u.handMark = rangeView u := by unfold State.handMark; split <;> rfl
  have opened : rangeView (State.closeSegment none (State.endBreak s)) = rangeView s := by
    rw [rangeView_closeSegment, ended]
  cases kind
  · exact (marks _).trans opened
  · exact opened

@[simp] theorem rangeView_startSegment (g : Segment) (position : Nat) (rx : Option Stretch) :
    rangeView (State.startSegment g position rx s) = rangeView s := by
  have : rangeView (State.settleMark (State.closeSegment rx (State.settle s))) = rangeView s := by simp
  exact this

@[simp] theorem rangeView_recogniseBreak (rx : Option Stretch) : rangeView (State.recogniseBreak rx s) = rangeView s := by
  unfold State.recogniseBreak
  split
  · have : rangeView (State.settleMark (State.breakSegment rx s.cut)) = rangeView s := by
      simp [State.breakSegment, apply_ite rangeView]
    exact this
  · rfl

@[simp] theorem rangeView_expire (run : Nat) : rangeView (State.expire run s) = rangeView s := by
  unfold State.expire; split <;> rfl

@[simp] theorem rangeView_runOver (run : Nat) : rangeView (State.runOver run s) = rangeView s := by
  unfold State.runOver; split <;> rfl

@[simp] theorem rangeView_runSettled : rangeView (State.runSettled s) = rangeView s := by
  unfold State.runSettled
  split
  · rw [rangeView_rearm]; rfl
  · rfl

@[simp] theorem rangeView_drive (run : Nat) (rx : Option Stretch) (a : Attempt) :
    rangeView (State.drive run rx a s) = rangeView s := by
  simp [State.drive, apply_ite rangeView]

@[simp] theorem rangeView_dominantFault (a : Attempt) (bit : Nat) : rangeView (State.dominantFault a bit s) = rangeView s := by
  simp [State.dominantFault, apply_ite rangeView]

end Operations

/-! ### Operations of the taps and the streams -/

section Supply
variable (s : State)

@[simp] theorem rangeView_tapTake (f : SlotFrame) : rangeView (State.tapTake f s) = rangeView s := by
  have account (t : TapNo) (seq next : Byte) (u : State) : rangeView (State.tapAccount t seq next u) = rangeView u := by
    simp only [State.tapAccount]; split <;> rfl
  have queue (t : TapNo) (frame : RxFrame) (u : State) : rangeView (State.tapQueue t frame u) = rangeView u := by
    simp only [State.tapQueue]; split_ifs <;> rfl
  unfold State.tapTake
  split
  · rfl
  · split
    · rw [queue, account]
    · rw [account]

@[simp] theorem rangeView_dataComplete (n : StreamNo) : rangeView (State.dataComplete n s) = rangeView s := by
  simp only [State.dataComplete]; split <;> rfl

@[simp] theorem rangeView_reportLoss (r : Option LossReport) : rangeView (State.reportLoss r s) = rangeView s := by
  cases r <;> rfl

@[simp] theorem rangeView_claimOnOwn (slots : SlotSet) : rangeView (State.claimOnOwn slots s) = rangeView s := by
  simp only [State.claimOnOwn]; split <;> rfl

@[simp] theorem rangeView_countWaits (taken : State) : rangeView (State.countWaits taken s) = rangeView s := rfl

@[simp] theorem rangeView_supply (k : Slot) : rangeView (State.supply k s) = rangeView s := by
  have frame (n : StreamNo) : rangeView (State.supplyFrame k n s) = rangeView s := by
    simp only [State.supplyFrame]; split_ifs
    · rfl
    · split <;> rfl
  unfold State.supply
  split
  · split
    · exact frame _
    · rfl
  · rfl

/-- R23: a reached mark is no part of the view. -/
@[simp] theorem rangeView_reach (k : Slot) : rangeView { s with map := s.map.reach k } = rangeView s := by
  have : (s.map.reach k).map Entry.state = s.map.map Entry.state := by
    ext i hi
    by_cases e : (k : Nat) = i
    · subst e; simp [SlotMap.reach]
    · simp [SlotMap.reach, e]
  simp only [rangeView, this]

@[simp] theorem rangeView_offerClaim (w : WindowNo) : rangeView (State.offerClaim w s) = rangeView s := by
  unfold State.offerClaim
  split
  · split <;> rfl
  · rfl

@[simp] theorem rangeView_beginClose (n : StreamNo) : rangeView (State.beginClose n s) = rangeView s := by
  simp only [State.beginClose]; split <;> rfl

theorem rangeView_closeStreams (ns : List StreamNo) (s : State) : rangeView (State.closeStreams ns s) = rangeView s := by
  induction ns generalizing s with
  | nil => rfl
  | cons n ns ih => exact (ih _).trans (rangeView_beginClose s n)

end Supply

end Sys2Proof.Proofs
end

section
/-! SUPPORT. The ranges of every step: the invariant, and that each operation keeps it. -/

namespace Sys2Proof.Proofs

open Sys2Proof Sys2Proof.Machine Sys2Proof.Safety

/-! ### The invariant -/

/-- R145, R146: the ranges of a setup record. -/
structure SetupInRange (r : Setup) : Prop where
  address : r.address ≤ 62
  lease   : 2 ≤ r.leaseLimit ∧ r.leaseLimit ≤ 15
  reload  : 1 ≤ r.attemptReload ∧ r.attemptReload ≤ 15
  reserve : r.receiveReserve ≤ 32

/-- R149 to R151, R154, R156: the ranges of station control's counts. -/
structure CountsInRange (c : Station) : Prop where
  init_count    : c.initCount ≤ 512
  listen_count  : c.listenCount ≤ 3 ∧ (c.state = .listening → c.listenCount < 3)
  window_length : c.window.length = 16
  mute_zero     : c.state ≠ .muted → c.muteRemaining = 0
  mute_range    : c.state = .muted → 1 ≤ c.muteRemaining ∧ c.muteRemaining ≤ 32

/-- `StationInRange` and `EntriesInRange`, sorted by the part of the state that each range is about. -/
structure InRange (s : State) : Prop where
  setup       : SetupInRange s.setup
  address_set : ¬ Resting s → 1 ≤ s.setup.address
  counts      : CountsInRange s.station
  timer_runs  : s.timer.running = true ↔ ¬ Resting s
  receiver_on : s.line.receiver = true ↔ ¬ Resting s
  entries     : ∀ k : Slot, entryInRange s.setup.address s.setup.leaseLimit s.map[k].state

theorem inRange_iff (s : State) : InRange s ↔ StationInRange s ∧ EntriesInRange s := by
  constructor
  · rintro ⟨⟨address, ⟨lease2, lease15⟩, reload, reserve⟩, set, ⟨init, listen, window, zero, mute⟩, runs, on, entries⟩
    exact ⟨⟨address, set, reload, reserve, init, listen, window, zero, mute, runs, on⟩, lease2, lease15, entries⟩
  · rintro ⟨⟨address, set, reload, reserve, init, listen, window, zero, mute, runs, on⟩, lease2, lease15, entries⟩
    exact ⟨⟨address, ⟨lease2, lease15⟩, reload, reserve⟩, set, ⟨init, listen, window, zero, mute⟩, runs, on, entries⟩

/-- INITIALISING and OFFLINE with a free map: what SETUP, which changes the own address and the lease limit, needs
besides the ranges (R22). -/
structure Calm (s : State) : Prop where
  ranges   : InRange s
  map_free : Resting s → ∀ k : Slot, s.map[k].state = .free

/-! ### The invariant through the view -/

theorem entry_of_view {s t : State} (h : rangeView t = rangeView s) (k : Slot) : t.map[k].state = s.map[k].state := by
  have entries : t.map.map Entry.state = s.map.map Entry.state := congrArg RangeView.entries h
  simpa using congrArg (fun v : Vector EntryState 32 => v[k]) entries

theorem state_of_view {s t : State} (h : rangeView t = rangeView s) : t.station.state = s.station.state :=
  congrArg (fun v => v.station.state) h

theorem resting_of_view {s t : State} (h : rangeView t = rangeView s) : Resting t ↔ Resting s := by
  simp only [Resting, state_of_view h]

theorem countsInRange_faultMark (c : Station) (b : Bool) : CountsInRange { c with faultMark := b } ↔ CountsInRange c :=
  ⟨fun ⟨init, listen, window, zero, mute⟩ => ⟨init, listen, window, zero, mute⟩,
   fun ⟨init, listen, window, zero, mute⟩ => ⟨init, listen, window, zero, mute⟩⟩

/-- A state that shows the same view keeps the invariant. -/
theorem InRange.of_view {s t : State} (hs : InRange s) (h : rangeView t = rangeView s) : InRange t := by
  have setup : t.setup = s.setup := congrArg RangeView.setup h
  have station : { t.station with faultMark := false } = { s.station with faultMark := false } :=
    congrArg RangeView.station h
  have running : t.timer.running = s.timer.running := congrArg RangeView.running h
  have receiver : t.line.receiver = s.line.receiver := congrArg RangeView.receiver h
  refine ⟨setup ▸ hs.setup, ?_, ?_, ?_, ?_, fun k => ?_⟩
  · rw [resting_of_view h, setup]; exact hs.address_set
  · rw [← countsInRange_faultMark _ false, station, countsInRange_faultMark]; exact hs.counts
  · rw [resting_of_view h, running]; exact hs.timer_runs
  · rw [resting_of_view h, receiver]; exact hs.receiver_on
  · rw [entry_of_view h, setup]; exact hs.entries k

theorem Calm.of_view {s t : State} (hs : Calm s) (h : rangeView t = rangeView s) : Calm t :=
  ⟨hs.ranges.of_view h, fun ht k => by rw [entry_of_view h]; exact hs.map_free ((resting_of_view h).mp ht) k⟩

/-! ### The map -/

/-- An update of the map that keeps the entries' ranges. -/
theorem InRange.withMap {s t : State} (hs : InRange s) (hsetup : t.setup = s.setup) (hst : t.station = s.station)
    (hr : t.timer.running = s.timer.running) (hl : t.line.receiver = s.line.receiver)
    (hm : ∀ k : Slot, entryInRange s.setup.address s.setup.leaseLimit t.map[k].state) : InRange t := by
  have resting : Resting t ↔ Resting s := by simp only [Resting, hst]
  exact ⟨hsetup ▸ hs.setup, by rw [resting, hsetup]; exact hs.address_set, hst ▸ hs.counts,
    by rw [resting, hr]; exact hs.timer_runs, by rw [resting, hl]; exact hs.receiver_on, by rw [hsetup]; exact hm⟩

theorem InRange.changeMap {s : State} (hs : InRange s) (f : SlotMap → SlotMap)
    (hm : ∀ k : Slot, entryInRange s.setup.address s.setup.leaseLimit (f s.map)[k].state) :
    InRange (State.changeMap f s) :=
  hs.withMap (by simp) (by simp) (by simp) (by simp) (by simpa using hm)

/-- One entry replaced. -/
theorem entries_set {own lease : Nat} {m : SlotMap} (hm : ∀ k : Slot, entryInRange own lease m[k].state) (j : Slot)
    {e : Entry} (he : entryInRange own lease e.state) (k : Slot) : entryInRange own lease (m.set j e)[k].state := by
  by_cases h : (j : Nat) = k
  · simpa [h] using he
  · simpa [h] using hm k

@[simp] theorem updateStates_state (m : SlotMap) (f : Slot → EntryState → EntryState) (k : Slot) :
    (m.updateStates f)[k].state = f k m[k].state := by
  simp [SlotMap.updateStates, SlotMap.update]

/-- R25 to R27: ageing. -/
theorem entryInRange_age {own lease : Nat} (hl : 2 ≤ lease) (e : Entry) (h : entryInRange own lease e.state) :
    entryInRange own lease (e.age lease) := by
  unfold Entry.age
  cases hst : e.state with
  | free => trivial
  | pending o n c d =>
    rw [hst] at h
    obtain ⟨owner, count, detached⟩ := h
    dsimp only
    split
    · exact ⟨owner, by omega, detached⟩
    · exact ⟨owner, by omega, detached⟩
  | held o n silent d =>
    rw [hst] at h
    obtain ⟨owner, count, detached⟩ := h
    dsimp only
    split_ifs
    · exact ⟨owner, by omega, detached⟩
    · exact .inr rfl
    · exact ⟨owner, by omega, detached⟩
    · exact ⟨owner, count, detached⟩
  | quarantine c =>
    rw [hst] at h
    have count : c = 1 ∨ c = 2 := h
    dsimp only
    split
    · trivial
    · exact .inl (by omega)

/-- R42: detaching: an own entry only. -/
theorem entryInRange_detach {own lease : Nat} (p : StreamNo → Bool) (e : EntryState) (h : entryInRange own lease e) :
    entryInRange own lease (e.detach own p) := by
  have owned {o : Nat} {n : StreamNo} {d : Bool} (hd : d = true → o = own) : (d || (o == own && p n)) = true → o = own := by
    simp only [Bool.or_eq_true, Bool.and_eq_true, beq_iff_eq]
    exact fun h => h.elim hd And.left
  cases e with
  | free => trivial
  | pending o n c d => exact ⟨h.1, h.2.1, owned h.2.2⟩
  | held o n silent d => exact ⟨h.1, h.2.1, owned h.2.2⟩
  | quarantine c => exact h

/-- R37, R38: a RELEASE. -/
theorem entryInRange_released {own lease : Nat} (sender : Nat) (e : EntryState) (h : entryInRange own lease e) :
    entryInRange own lease (e.released sender) := by
  unfold EntryState.released
  split
  · split
    · exact .inr rfl
    · exact h
  · exact h

/-- R31: the station's own frame. -/
theorem entryInRange_heardOwn {own lease : Nat} (hl : 2 ≤ lease) (e : EntryState) (h : entryInRange own lease e) :
    entryInRange own lease e.heardOwn := by
  cases e with
  | held o n silent d => exact ⟨h.1, by omega, h.2.2⟩
  | free => exact h
  | pending => exact h
  | quarantine => exact h

/-- R34, R36: a CLAIM of a station. -/
theorem InRange.claim {s : State} (hs : InRange s) {sender : Nat} (hsender : 1 ≤ sender ∧ sender ≤ 62) (n : StreamNo)
    (set : SlotSet) : InRange (State.changeMap (fun m => m.claim sender n set) s) := by
  refine hs.changeMap _ fun k => ?_
  rw [SlotMap.claim, updateStates_state]
  split
  · exact ⟨hsender, .inr rfl, nofun⟩
  · exact hs.entries k

/-- R37, R38: a RELEASE of a station. -/
theorem InRange.release {s : State} (hs : InRange s) (sender : Nat) (set : SlotSet) :
    InRange (State.changeMap (fun m => m.release sender set) s) := by
  refine hs.changeMap _ fun k => ?_
  rw [SlotMap.release, updateStates_state]
  split
  · exact entryInRange_released sender _ (hs.entries k)
  · exact hs.entries k

theorem InRange.detach {s : State} (hs : InRange s) (p : StreamNo → Bool) : InRange (State.detach p s) := by
  refine hs.withMap (by simp) (by simp) (by simp) (by simp) fun k => ?_
  rw [State.detach_map, SlotMap.detach, updateStates_state]
  exact entryInRange_detach p _ (hs.entries k)

theorem rangeView_releasedSilently (p : StreamNo → Bool) (s : State) :
    rangeView (releasedSilently p s) = rangeView (State.detach p s) := rfl

theorem InRange.releasedSilently {s : State} (hs : InRange s) (p : StreamNo → Bool) : InRange (releasedSilently p s) :=
  (hs.detach p).of_view (rangeView_releasedSilently p s)

/-- R25 to R28: the map at a boundary. -/
theorem InRange.ageMap {s : State} (hs : InRange s) : InRange (State.ageMap s) := by
  simp only [State.ageMap]
  apply InRange.changeMap
  · exact hs.of_view (rangeView_updateStreams s _)
  · intro k
    simpa [SlotMap.boundary, SlotMap.update] using entryInRange_age hs.setup.lease.1 _ (hs.entries k)

/-! ### Changes of station state -/

/-- A change of station control that leaves the setup record, the timer, the receiver and the map, and stays within or
outside INITIALISING and OFFLINE. -/
theorem InRange.withStation {s t : State} (hs : InRange s) (hsetup : t.setup = s.setup)
    (hr : t.timer.running = s.timer.running) (hl : t.line.receiver = s.line.receiver) (hm : t.map = s.map)
    (resting : Resting t ↔ Resting s) (hc : CountsInRange t.station) : InRange t :=
  ⟨hsetup ▸ hs.setup, by rw [resting, hsetup]; exact hs.address_set, hc, by rw [resting, hr]; exact hs.timer_runs,
    by rw [resting, hl]; exact hs.receiver_on, by rw [hsetup, hm]; exact hs.entries⟩

/-- R160: entry to OFFLINE. -/
theorem Calm.enterOffline {s : State} (hs : InRange s) : Calm (State.enterOffline s) := by
  have resting : Resting s.enterOffline := .inr rfl
  have free (k : Slot) : s.enterOffline.map[k].state = .free := by simp [State.enterOffline, SlotMap.cleared, Entry.reset]
  refine ⟨⟨hs.setup, fun h => absurd resting h, ?_, ?_, ?_, fun k => ?_⟩, fun _ => free⟩
  · exact ⟨hs.counts.init_count, ⟨Nat.zero_le _, nofun⟩, hs.counts.window_length, fun _ => rfl, nofun⟩
  · exact iff_of_false nofun (not_not_intro resting)
  · exact iff_of_false nofun (not_not_intro resting)
  · rw [free]; trivial

theorem Calm.leaveIfDone {s : State} (hs : Calm s) : Calm (State.leaveIfDone s) := by
  unfold State.leaveIfDone
  split
  · exact (Calm.enterOffline hs.ranges).of_view rfl
  · exact hs

theorem InRange.leaveIfDone {s : State} (hs : InRange s) : InRange (State.leaveIfDone s) := by
  unfold State.leaveIfDone
  split
  · exact (Calm.enterOffline hs).ranges.of_view rfl
  · exact hs

/-- R44, R159: CLASH. -/
theorem InRange.clash {s : State} (hs : InRange s) : InRange (State.clash s) := by
  have detached : InRange (State.updateStreams (fun _ st => { st with held := 0, pending := 0 })
    (State.detach (fun _ => true) s)) := (hs.detach _).of_view (rangeView_updateStreams _ _)
  exact (Calm.enterOffline detached).ranges.of_view (rangeView_latches _ _)

/-- R16, R152: the lone-start report. -/
theorem InRange.loneStartReport {s : State} (hs : InRange s) (h : s.station.state = .listening) :
    InRange (State.loneStartReport s) := by
  have active : InRange { s with station := { s.station with state := .active, startedTrunk := true } } := by
    refine hs.withStation rfl rfl rfl rfl (by simp [Resting, h]) ?_
    exact ⟨hs.counts.init_count, ⟨hs.counts.listen_count.1, nofun⟩, hs.counts.window_length,
      fun _ => hs.counts.mute_zero (by simp [h]), nofun⟩
  exact active.of_view (by rw [State.loneStartReport, rangeView_handBreak]; rfl)

/-! ### Boundaries -/

/-- R5 to R89: what a boundary has made of the state when station control takes it (R155). -/
def beforeStation (kind : BoundaryKind) (s : State) : State :=
  State.countWaits s (State.releaseOverdue (State.countCloses (State.ageMap (State.openCycle kind s))))

theorem boundary_eq (kind : BoundaryKind) (s : State) : State.boundary kind s =
    State.changing (fun _ => State.stationBoundary kind s.station.state (beforeStation kind s)) s := by
  simp only [State.boundary, State.changing, beforeStation]

/-! R155: the blocks at entry to MUTED. -/

@[simp] theorem enterMuted_setup (s : State) : (State.enterMuted s).setup = s.setup := by simp [State.enterMuted]

theorem enterMuted_map (s : State) : (State.enterMuted s).map = (State.detach (fun _ => true) s).map := by
  simp [State.enterMuted]

@[simp] theorem enterMuted_station (s : State) : (State.enterMuted s).station =
    { s.station with state := .muted, muteRemaining := 32, faultMark := false } := by
  simp [State.enterMuted, mutePeriod]

@[simp] theorem enterMuted_timer (s : State) : (State.enterMuted s).timer = { s.timer with markOwed := false } := by
  simp [State.enterMuted]

@[simp] theorem enterMuted_line (s : State) :
    (State.enterMuted s).line = { s.line with transmit := .idle, txd := .recessive } := by
  simp [State.enterMuted, State.endAttempt, State.setTransmit]

/-! What the boundary's middle leaves alone. -/

@[simp] theorem ageMap_setup (s : State) : (State.ageMap s).setup = s.setup := by simp [State.ageMap]
@[simp] theorem ageMap_station (s : State) : (State.ageMap s).station = s.station := by simp [State.ageMap]
@[simp] theorem ageMap_timer (s : State) : (State.ageMap s).timer = s.timer := by simp [State.ageMap]
@[simp] theorem ageMap_line (s : State) : (State.ageMap s).line = s.line := by simp [State.ageMap]

@[simp] theorem beforeStation_station (kind : BoundaryKind) (s : State) :
    (beforeStation kind s).station = (State.openCycle kind s).station := by
  simp [beforeStation, State.countWaits, releaseOverdue_eq, releasedSilently, State.countCloses]

@[simp] theorem beforeStation_timer (kind : BoundaryKind) (s : State) :
    (beforeStation kind s).timer = (State.openCycle kind s).timer := by
  simp [beforeStation, State.countWaits, releaseOverdue_eq, releasedSilently, State.countCloses]

@[simp] theorem beforeStation_line (kind : BoundaryKind) (s : State) :
    (beforeStation kind s).line = (State.openCycle kind s).line := by
  simp [beforeStation, State.countWaits, releaseOverdue_eq, releasedSilently, State.countCloses]

theorem shiftWindow_length (verdict : Bool) (window : List Bool) (h : window.length = 16) :
    (shiftWindow verdict window).length = 16 := by simp [shiftWindow, h]

theorem InRange.takeVerdict {s : State} (hs : InRange s) : InRange (State.takeVerdict s) := by
  obtain ⟨init, listen, window, zero, mute⟩ := hs.counts
  exact hs.withStation rfl rfl rfl rfl Iff.rfl ⟨init, listen, shiftWindow_length _ _ window, zero, mute⟩

/-- R155: entry to MUTED. -/
theorem InRange.enterMuted {s : State} (hs : InRange s) (h : s.station.state = .active) : InRange (State.enterMuted s) := by
  obtain ⟨init, listen, window, zero, mute⟩ := hs.counts
  apply (hs.detach fun _ => true).withStation (t := State.enterMuted s) (by simp) (by simp) (by simp) (enterMuted_map s)
  · simp [Resting, h]
  · rw [enterMuted_station]
    exact ⟨init, ⟨listen.1, nofun⟩, window, fun h => absurd rfl h, fun _ => by simp⟩

/-- R151: a boundary counted in LISTENING. -/
theorem InRange.countListening {s : State} (hs : InRange s) (h : s.station.state = .listening) (kind : BoundaryKind) :
    InRange (State.stationBoundary kind .listening s) := by
  obtain ⟨init, listen, window, zero, mute⟩ := hs.counts
  have below := listen.2 h
  cases kind with
  | synthesized => exact hs.of_view rfl
  | heard =>
    simp only [State.stationBoundary]
    split
    · refine hs.withStation rfl rfl rfl rfl (by simp [Resting, State.join, h]) ?_
      exact ⟨init, ⟨below, nofun⟩, window, fun _ => zero (by simp [h]), nofun⟩
    · next few =>
      refine hs.withStation rfl rfl rfl rfl Iff.rfl ?_
      have : s.station.listenCount + 1 < 3 := Nat.lt_of_not_le few
      exact ⟨init, ⟨this.le, fun _ => this⟩, window, zero, mute⟩

/-- R156: a boundary counted in MUTED. -/
theorem InRange.countMuted {s : State} (hs : InRange s) (h : s.station.state = .muted) (kind : BoundaryKind) :
    InRange (State.stationBoundary kind .muted s) := by
  obtain ⟨init, listen, window, zero, mute⟩ := hs.counts
  obtain ⟨_, most⟩ := mute h
  simp only [State.stationBoundary]
  split
  · next elapsed =>
    refine hs.withStation rfl rfl rfl rfl (by simp [Resting, State.rejoin, h]) ?_
    exact ⟨init, ⟨Nat.zero_le _, fun _ => Nat.zero_lt_succ _⟩, rfl, fun _ => elapsed, nofun⟩
  · next left =>
    refine hs.withStation rfl rfl rfl rfl Iff.rfl ?_
    have left : s.station.muteRemaining - 1 ≠ 0 := left
    refine ⟨init, ⟨listen.1, fun e => ?_⟩, window, fun e => absurd h e, fun _ => ?_⟩
    · exact absurd (h.symm.trans e) nofun
    · show 1 ≤ s.station.muteRemaining - 1 ∧ s.station.muteRemaining - 1 ≤ 32
      omega

/-- R151, R154 to R156, R158: station control at a boundary. -/
theorem InRange.stationBoundary {s : State} (hs : InRange s) (kind : BoundaryKind) :
    InRange (State.stationBoundary kind s.station.state s) := by
  cases h : s.station.state with
  | initialising => exact hs
  | offline => exact hs
  | listening => exact hs.countListening h kind
  | muted => exact hs.countMuted h kind
  | active =>
    simp only [State.stationBoundary]
    split
    · exact hs.takeVerdict.enterMuted h
    · exact hs.takeVerdict
  | leaving =>
    simp only [State.stationBoundary]
    split
    · rw [silentReleaseAll_eq]
      exact (Calm.enterOffline (hs.takeVerdict.releasedSilently _)).ranges.of_view rfl
    · exact hs.takeVerdict.leaveIfDone

/-- R5, R14: a boundary in every block. -/
theorem InRange.boundary {s : State} (hs : InRange s) (kind : BoundaryKind) : InRange (State.boundary kind s) := by
  have opened : InRange (State.openCycle kind s) := hs.of_view (by simp)
  have reached : InRange (beforeStation kind s) := by
    refine InRange.of_view ?_ (rangeView_countWaits _ _)
    rw [releaseOverdue_eq]
    exact (opened.ageMap.of_view (rangeView_updateStreams _ _)).releasedSilently _
  have taken : (beforeStation kind s).station.state = s.station.state := by
    rw [beforeStation_station]
    exact state_of_view (rangeView_openCycle s kind)
  have moved := reached.stationBoundary kind
  rw [taken] at moved
  rw [boundary_eq]
  exact moved.of_view (rangeView_changing _ _)

theorem InRange.boundaryWith {s : State} (hs : InRange s) (p : BoundaryKind → Bool) :
    InRange (State.boundaryWith p s) := by
  unfold State.boundaryWith
  split
  · split
    · exact hs.boundary _
    · exact hs
  · exact hs

end Sys2Proof.Proofs
end

section
/-! SUPPORT. The ranges, command by command, and the statement that every step keeps them. -/

namespace Sys2Proof.Proofs

open Sys2Proof Sys2Proof.Machine Sys2Proof.Safety

/-! ### Requests -/

theorem rangeArg_bounds {low high n : Nat} {b : Byte} (h : rangeArg low high b = some n) : low ≤ n ∧ n ≤ high := by
  simp only [rangeArg, Option.ite_none_right_eq_some, Option.some.injEq] at h
  obtain ⟨bounds, rfl⟩ := h
  exact bounds

theorem addressArg_bounds {n : Nat} {b : Byte} (h : addressArg b = some n) : 1 ≤ n ∧ n ≤ 62 := by
  simp only [addressArg, Option.ite_none_right_eq_some, Option.some.injEq] at h
  obtain ⟨fits, rfl⟩ := h
  simpa [addressFits] using fits

/-- R146: the arguments that SETUP takes. -/
theorem setupArgs_inRange {args : List Byte} {r : Setup} (h : setupArgs args = some r) :
    SetupInRange r ∧ 1 ≤ r.address := by
  unfold setupArgs at h
  split at h
  · simp only [Option.bind_eq_bind, Option.bind_eq_some_iff] at h
    obtain ⟨address, ha, rate, _, lease, hl, reload, hr, reserve, hv, he⟩ := h
    cases he
    exact ⟨⟨(addressArg_bounds ha).2, rangeArg_bounds hl, rangeArg_bounds hr, (rangeArg_bounds hv).2⟩,
      (addressArg_bounds ha).1⟩
  · cases h

theorem takeSetup_keeps (args : List Byte) {s : State} (hs : Calm s) : Calm (takeSetup args s).after := by
  unfold takeSetup
  split
  · exact hs
  · next record hr =>
    split
    · exact hs
    · next offline =>
      obtain ⟨fits, set⟩ := setupArgs_inRange hr
      have resting : Resting s := .inr (not_not.mp offline)
      have free := hs.map_free resting
      refine Calm.of_view (s := { s with setup := record }) ⟨?_, fun _ => free⟩ rfl
      exact ⟨fits, fun _ => set, hs.ranges.counts, hs.ranges.timer_runs, hs.ranges.receiver_on,
        fun k => by rw [show ({ s with setup := record } : State).map[k].state = _ from free k]; trivial⟩

theorem takeStart_keeps (args : List Byte) {s : State} (hs : Calm s) : Calm (takeStart args s).after := by
  unfold takeStart
  split
  · exact hs
  · split
    · exact hs
    · next set =>
      have awake : ¬ Resting s.beginListening := by simp [Resting, State.beginListening]
      refine ⟨⟨hs.ranges.setup, fun _ => Nat.pos_of_ne_zero set, ?_, iff_of_true rfl awake, iff_of_true rfl awake,
        hs.ranges.entries⟩, fun h => absurd h awake⟩
      exact ⟨hs.ranges.counts.init_count, ⟨Nat.zero_le _, fun _ => Nat.zero_lt_succ _⟩, rfl, fun _ => rfl, nofun⟩

/-- R157: STOP in ACTIVE. -/
theorem beginLeave_keeps {s : State} (hs : Calm s) (h : s.station.state = .active) : Calm s.beginLeave := by
  have leaving : Calm { s with station := { s.station with state := .leaving } } := by
    obtain ⟨init, listen, window, zero, mute⟩ := hs.ranges.counts
    refine ⟨hs.ranges.withStation rfl rfl rfl rfl (by simp [Resting, h]) ?_, by simp [Resting]⟩
    exact ⟨init, ⟨listen.1, nofun⟩, window, fun _ => zero (by simp [h]), nofun⟩
  simp only [State.beginLeave]
  apply Calm.leaveIfDone
  exact leaving.of_view (rangeView_closeStreams _ _)

theorem takeStop_keeps (args : List Byte) {s : State} (hs : Calm s) : Calm (takeStop args s).after := by
  unfold takeStop
  split
  · exact (Calm.enterOffline hs.ranges).of_view (rangeView_changing _ _)
  · exact (Calm.enterOffline hs.ranges).of_view (rangeView_changing _ _)
  · next active => exact (beginLeave_keeps hs active).of_view (rangeView_changing _ _)
  · exact hs

theorem takeCloseStream_keeps (args : List Byte) {s : State} (hs : Calm s) : Calm (takeCloseStream args s).after := by
  unfold takeCloseStream
  split
  · exact hs
  · next n _ =>
    split
    · exact hs
    · have closed : Calm (State.closeStream n s) := by
        simp only [State.closeStream]
        refine Calm.leaveIfDone (hs.of_view ?_)
        split <;> simp
      exact closed.of_view (rangeView_changing _ _)

/-! The requests that leave the view, by their branches. -/

section Requests
variable (args : List Byte) (s : State)

theorem takeOpenStream_view : rangeView (takeOpenStream args s).after = rangeView s := by
  unfold takeOpenStream; split
  · rfl
  · split <;> rfl

theorem takeSuspended_view (value : Bool) : rangeView (takeSuspended value args s).after = rangeView s := by
  unfold takeSuspended; split
  · rfl
  · split <;> rfl

theorem takePush_view : rangeView (takePush args s).after = rangeView s := by
  unfold takePush; split
  · rfl
  · split_ifs <;> rfl

theorem takeFlush_view : rangeView (takeFlush args s).after = rangeView s := by
  unfold takeFlush; split
  · rfl
  · split <;> rfl

theorem takeTapOn_view : rangeView (takeTapOn args s).after = rangeView s := by
  unfold takeTapOn; split
  · rfl
  · split_ifs <;> rfl

theorem takeTapOff_view : rangeView (takeTapOff args s).after = rangeView s := by
  unfold takeTapOff; split
  · rfl
  · split <;> rfl

theorem takePull_view : rangeView (takePull args s).after = rangeView s := by
  unfold takePull; split
  · rfl
  · split
    · rfl
    · split <;> rfl

theorem takeReadStream_view : rangeView (takeReadStream args s).after = rangeView s := by
  unfold takeReadStream; split <;> rfl

theorem takeReadTap_view : rangeView (takeReadTap args s).after = rangeView s := by
  unfold takeReadTap; split <;> rfl

theorem takeSetEnables_view : rangeView (takeSetEnables args s).after = rangeView s := by
  unfold takeSetEnables; split <;> rfl

end Requests

/-- 10.6: every row of the request table keeps the ranges. -/
theorem row_keeps {row : RequestRow} (hr : row ∈ requestTable) (args : List Byte) {s : State} (hs : Calm s) :
    Calm (row.take args s).after := by
  simp only [requestTable, List.mem_cons, List.not_mem_nil, or_false] at hr
  rcases hr with rfl | rfl | rfl | rfl | rfl | rfl | rfl | rfl | rfl | rfl | rfl | rfl | rfl | rfl | rfl | rfl | rfl | rfl | rfl
  · exact takeSetup_keeps args hs
  · exact takeStart_keeps args hs
  · exact takeStop_keeps args hs
  · exact hs.of_view rfl
  · exact hs.of_view (takeOpenStream_view args s)
  · exact takeCloseStream_keeps args hs
  · exact hs.of_view (takeSuspended_view args s true)
  · exact hs.of_view (takeSuspended_view args s false)
  · exact hs.of_view (takePush_view args s)
  · exact hs.of_view (takeFlush_view args s)
  · exact hs.of_view (takeTapOn_view args s)
  · exact hs.of_view (takeTapOff_view args s)
  · exact hs.of_view (takePull_view args s)
  · exact hs.of_view rfl
  · exact hs.of_view (takeReadStream_view args s)
  · exact hs.of_view (takeReadTap_view args s)
  · exact hs.of_view rfl
  · exact hs.of_view rfl
  · exact hs.of_view (takeSetEnables_view args s)

/-- R175: what the port makes of a complete request. -/
theorem answerRequest_keeps (code count : Byte) (args : List Byte) {s : State} (hs : Calm s) :
    Calm (answerRequest (requestRow code) count args s).after := by
  unfold answerRequest
  split
  · exact hs
  · split
    · exact hs
    · next row hr =>
      split
      · exact hs
      · exact row_keeps (List.mem_of_find?_eq_some hr) args hs

theorem takeRequest_keeps {s : State} (hs : Calm s) : Calm s.takeRequest := by
  have taken : Calm (State.modifyPort (fun p => { p with phase := .answer }) s) := hs.of_view rfl
  exact (answerRequest_keeps _ _ _ taken).of_view rfl

@[simp] theorem rangeView_answerOut (s : State) : rangeView s.answerOut = rangeView s := by
  have commit : rangeView s.commitOwed = rangeView s := by
    unfold State.commitOwed
    split
    · unfold State.commitPull; split <;> rfl
    · rfl
    · rfl
  exact commit

/-- R172 to R176: one byte. -/
theorem clock_keeps {s : State} (hs : Calm s) (b : Byte) : Calm (State.clock s b) := by
  unfold State.clock
  split
  · exact hs
  · split
    · exact hs
    · exact hs.of_view rfl
    · simp only [State.clockCount]
      split
      · exact hs.of_view rfl
      · exact takeRequest_keeps (hs.of_view rfl)
    · simp only [State.clockArgument]
      split
      · exact hs.of_view rfl
      · exact takeRequest_keeps (hs.of_view rfl)
    · unfold State.clockAnswer
      split
      · exact hs.of_view rfl
      · exact hs.of_view (rangeView_answerOut s)
    · exact hs.of_view rfl

theorem clockBytes_keeps (bytes : List Byte) {s : State} (hs : Calm s) : Calm (State.clockBytes bytes s) := by
  induction bytes generalizing s with
  | nil => exact hs
  | cons b bytes ih => exact ih (clock_keeps hs b)

/-! ### Pins and resets -/

/-- R147, R148: every block at its values after reset. -/
theorem resetBlocks_inRange {r : Setup} (hr : SetupInRange r) (s : State) : InRange (State.resetBlocks r s) := by
  have resting : Resting (State.resetBlocks r s) := .inl rfl
  refine ⟨hr, fun h => absurd resting h, ?_, iff_of_false nofun (not_not_intro resting),
    iff_of_false nofun (not_not_intro resting), fun k => ?_⟩
  · exact ⟨Nat.zero_le _, ⟨Nat.zero_le _, nofun⟩, rfl, fun _ => rfl, nofun⟩
  · simp [State.resetBlocks, State.afterReset, Entry.reset, entryInRange]

theorem pinReset_keeps (s : State) : InRange s.pinReset :=
  resetBlocks_inRange ⟨by decide, by decide, by decide, by decide⟩ _

theorem selFalls_view (s : State) : rangeView s.selFalls = rangeView s := by
  unfold State.selFalls
  split
  · rfl
  · dsimp only; split <;> rfl

theorem selRises_keeps {s : State} (hs : InRange s) : InRange s.selRises := by
  unfold State.selRises
  split
  · dsimp only
    split
    · exact resetBlocks_inRange hs.setup _
    · refine hs.of_view ?_
      unfold State.abandonCommit; split <;> rfl
  · exact hs

theorem pinResetRelease_keeps {s : State} (hs : InRange s) : InRange s.pinResetRelease := by
  unfold State.pinResetRelease
  split
  · exact hs.withStation rfl rfl rfl rfl Iff.rfl { hs.counts with init_count := Nat.zero_le _ }
  · exact hs

theorem initialisationEnd_keeps {s : State} (hs : InRange s) : InRange s.initialisationEnd := by
  unfold State.initialisationEnd
  split
  · next h =>
    obtain ⟨init, listen, window, zero, mute⟩ := hs.counts
    refine hs.withStation rfl rfl rfl rfl (by simp [Resting, h.1]) ?_
    exact ⟨le_rfl, ⟨listen.1, nofun⟩, window, fun _ => zero (by simp [h.1]), nofun⟩
  · exact hs

/-! ### Cycle events -/

theorem markTimerExpiry_keeps (run : Nat) (rx : Option Stretch) {s : State} (hs : InRange s) :
    InRange (State.markTimerExpiry run rx s) := by
  unfold State.markTimerExpiry
  split
  · dsimp only
    have expired : InRange (State.expire run s) := hs.of_view (rangeView_expire s run)
    split
    · split
      · exact expired.of_view (rangeView_handBreak _)
      · exact expired.of_view (rangeView_handBreak _)
      · exact InRange.boundary (expired.of_view (rangeView_noteReception _ rx)) _
      · exact expired
    · exact expired.of_view rfl
  · exact hs

theorem loneStart_keeps (run : Nat) {s : State} (hs : InRange s) : InRange (State.loneStart run s) := by
  unfold State.loneStart
  split
  · next h =>
    have listening : s.station.state = .listening := by
      simp only [Bool.and_eq_true, beq_iff_eq] at h
      exact h.1.1
    dsimp only
    split
    · exact InRange.loneStartReport (hs.of_view rfl) listening
    · exact hs.of_view rfl
  · exact hs

theorem loneStartSettled_keeps {s : State} (hs : InRange s) : InRange s.loneStartSettled := by
  unfold State.loneStartSettled
  split
  · next waits =>
    simp only [State.loneStartWaits, Bool.and_eq_true, beq_iff_eq] at waits
    exact hs.loneStartReport waits.1
  · exact hs

theorem shortRunEnd_keeps (run : Nat) (stopBit : Bool) {s : State} (hs : InRange s) :
    InRange (State.shortRunEnd run stopBit s) := by
  simp only [State.shortRunEnd]
  split
  · exact loneStartSettled_keeps (hs.of_view (by simp [apply_ite rangeView]))
  · exact hs

/-! ### Segment starts -/

theorem slotStart_view (k : Slot) (rx : Option Stretch) (s : State) : rangeView (State.slotStart k rx s) = rangeView s := by
  unfold State.slotStart
  split
  · dsimp only
    rw [rangeView_supply, rangeView_reach]; simp
  · rfl

theorem windowStart_keeps (w : WindowNo) (rx : Option Stretch) {s : State} (hs : InRange s) :
    InRange (State.windowStart w rx s) := by
  have offered {u : State} (hu : InRange u) : InRange (State.offerFirst w u) := by
    unfold State.offerFirst
    split
    · exact hu.of_view rfl
    · split
      · exact hu.of_view rfl
      · exact hu.leaveIfDone.of_view (rangeView_offerClaim _ w)
  unfold State.windowStart
  split
  · refine InRange.of_view ?_ (rangeView_changing _ _)
    have started : InRange (State.clearLostNote (State.startSegment (.window w) (windowStartAt w) rx s)) :=
      hs.of_view (by simp)
    unfold State.offer
    split
    · exact offered (started.of_view rfl)
    · exact started
  · exact hs

theorem gapStart_view (rx : Option Stretch) (s : State) : rangeView (State.gapStart rx s) = rangeView s := by
  unfold State.gapStart; split <;> simp

/-! ### Attempts -/

theorem attemptStart_view (run : Nat) (rx : Option Stretch) (s : State) :
    rangeView (State.attemptStart run rx s) = rangeView s := by
  unfold State.attemptStart
  split
  · split <;> simp
  · rfl

theorem arbitrationMismatch_view (bit : Nat) (s : State) : rangeView (State.arbitrationMismatch bit s) = rangeView s := by
  unfold State.arbitrationMismatch
  split
  · split <;> rfl
  · rfl

theorem transmitFault_view (bit : Nat) (s : State) : rangeView (State.transmitFault bit s) = rangeView s := by
  unfold State.transmitFault
  split
  · split <;> simp
  · simp
  · rfl

theorem breakComplete_view (s : State) : rangeView s.breakComplete = rangeView s := by
  unfold State.breakComplete; split <;> rfl

/-- R31, R94, R108: an own slot frame that ends COMPLETE. -/
theorem frameComplete_keeps (k : Slot) (f : SlotFrame) {s : State} (hs : InRange s) : InRange (State.frameComplete k f s) := by
  have heard : InRange (State.hearOwnFrame k s) :=
    hs.withMap rfl rfl rfl rfl (entries_set hs.entries k (entryInRange_heardOwn hs.setup.lease.1 _ (hs.entries k)))
  have choice (free : Nat) (u : State) : rangeView (State.countChoice free u) = rangeView u := by
    unfold State.countChoice; split <;> rfl
  refine heard.of_view ?_
  simp only [State.frameComplete]
  split
  · simp
  · rw [choice]; split <;> simp

/-- R59 to R61: an own announcement that ends COMPLETE. -/
theorem announcementComplete_keeps (a : Announcement) {s : State} (hs : InRange s) (set : 1 ≤ s.setup.address) :
    InRange (State.announcementComplete a s) := by
  have landed : InRange (State.setOffer none s) := hs.of_view rfl
  simp only [State.announcementComplete]
  split
  · have claimed := landed.claim (sender := s.own) ⟨set, hs.setup.address⟩ a.stream a.slots
    refine claimed.of_view ?_
    simp only [State.claimComplete]
    split <;> rfl
  · refine InRange.leaveIfDone (InRange.of_view (landed.release s.own a.slots) ?_)
    rfl
  · exact landed.of_view rfl

/-- R135.  The own address of a CLAIM is set, since only ACTIVE and LEAVING drive (R128). -/
theorem attemptComplete_keeps {s : State} (hs : InRange s) (ha : AttemptsAgree s) : InRange s.attemptComplete := by
  have ended : InRange (State.endFrame (State.endAttempt s)) := hs.of_view rfl
  unfold State.attemptComplete
  split
  · exact ended.of_view (rangeView_takeMark _ _)
  · exact frameComplete_keeps _ _ ended
  · next w a driving =>
    have drives : s.mayDrive = true := ha.driving_allowed (by rw [driving]; nofun)
    have awake : ¬ Resting s := by
      simp only [State.mayDrive, Bool.or_eq_true, beq_iff_eq] at drives
      rintro (h | h) <;> simp [h] at drives
    exact (announcementComplete_keeps a ended (hs.address_set awake)).of_view (rangeView_changing _ _)
  · exact hs

/-! ### Frames of other stations -/

/-- R138, R140, R143: a whole frame of another station, whose delivery keeps the ranges where it is legal. -/
theorem receiveWhole_keeps {admits legal : Bool} {deliver : State → State}
    (hd : legal = true → ∀ u, InRange u → InRange (deliver u)) (offset : Nat) {s : State} (hs : InRange s) :
    InRange (State.receiveWhole admits offset legal deliver s) := by
  have settled : InRange (State.settle (State.atRun 0 s)) := hs.of_view (by simp)
  unfold State.receiveWhole
  split
  · dsimp only
    split
    · exact settled
    · exact settled.of_view (rangeView_rxError _)
    · split
      · next fits =>
        simp only [Bool.and_eq_true, decide_eq_true_eq] at fits
        exact hd fits.2 _ (settled.of_view rfl)
      · exact settled.of_view (rangeView_rxError _)
  · exact hs

theorem addressFits_iff (a : Nat) : addressFits a = true ↔ 1 ≤ a ∧ a ≤ 62 := by simp [addressFits]

/-- R29, R32: a slot frame. -/
theorem deliverFrame_keeps (k : Slot) {f : SlotFrame} (hf : frameLegal f = true) {s : State} (hs : InRange s) :
    InRange (State.deliverFrame k f s) := by
  simp only [frameLegal, Bool.and_eq_true, addressFits_iff] at hf
  unfold State.deliverFrame
  split
  · exact hs.clash
  · have learnt : InRange (State.changeMap (fun m => m.learn k f.sender f.stream) s) := by
      refine hs.changeMap _ (entries_set hs.entries k ⟨hf.1, ?_, nofun⟩)
      have := hs.setup.lease.1
      omega
    exact learnt.of_view (by simp [State.learnFrame])

theorem slotFrameReceived_keeps (offset : Nat) (f : SlotFrame) {s : State} (hs : InRange s) :
    InRange (State.slotFrameReceived offset f s) := by
  unfold State.slotFrameReceived
  split
  · next k _ =>
    exact (receiveWhole_keeps (fun hf u hu => deliverFrame_keeps k hf hu) offset hs).of_view (rangeView_changing _ _)
  · exact hs

/-- R40: an announcement that is applied, or is a CLASH. -/
theorem announcementReceived_keeps (offset : Nat) {a : Announcement} {apply : State → State}
    (h : announcementLegal a = true → ∀ u, InRange u → InRange (apply u)) {s : State} (hs : InRange s) :
    InRange (State.announcementReceived offset a apply s) := by
  refine InRange.of_view (receiveWhole_keeps (fun legal u hu => ?_) offset hs) (rangeView_changing _ _)
  unfold State.deliverAnnouncement
  split
  · exact hu.clash
  · exact h legal u hu

theorem claimReceived_keeps (offset sender : Nat) (n : StreamNo) (slots : SlotSet) {s : State} (hs : InRange s) :
    InRange (State.claimReceived offset sender n slots s) := by
  refine announcementReceived_keeps offset (fun legal u hu => ?_) hs
  simp only [announcementLegal, Bool.and_eq_true, addressFits_iff] at legal
  exact InRange.claim (hu.of_view (rangeView_claimOnOwn u slots)) legal.1 n slots

theorem releaseReceived_keeps (offset sender : Nat) (n : StreamNo) (slots : SlotSet) {s : State} (hs : InRange s) :
    InRange (State.releaseReceived offset sender n slots s) :=
  announcementReceived_keeps offset (fun _ _ hu => hu.release sender slots) hs

theorem objectReceived_keeps (offset sender : Nat) (n : StreamNo) (k : Slot) (aux : Nat) {s : State} (hs : InRange s) :
    InRange (State.objectReceived offset sender n k aux s) := by
  refine announcementReceived_keeps offset (fun legal u hu => ?_) hs
  simp only [announcementLegal, setAndAuxLegal, Bool.and_eq_true, addressFits_iff, decide_eq_true_eq] at legal
  obtain ⟨owner, _, count⟩ := legal
  have objected : entryInRange u.setup.address u.setup.leaseLimit (objectedState sender n aux) := by
    have := hu.setup.lease.1
    unfold objectedState
    split
    · exact ⟨owner, by omega, nofun⟩
    · exact ⟨owner, by omega, nofun⟩
  exact (hu.changeMap _ (entries_set hu.entries k objected)).of_view (rangeView_reportLoss _ _)

theorem receiveError_view (heard : Stretch) (s : State) : rangeView (State.receiveError heard s) = rangeView s := by
  unfold State.receiveError; split <;> simp

/-! ### The step -/

/-- Every command that is carried out keeps the ranges. -/
theorem exec_keeps {c : Instr} {s t : State} (hs : Calm s) (ha : AttemptsAgree s) (h : exec c s = .next t) :
    InRange t := by
  have ranges := hs.ranges
  have clocked (bytes : List Byte) : InRange (State.clockBytes bytes s) := (clockBytes_keeps bytes hs).ranges
  have named (p : BoundaryKind → Bool) : InRange (State.boundaryWith p s) := ranges.boundaryWith p
  cases c <;> cases h
  case unknownRequest code bytes =>
    split
    · exact ranges
    · exact clocked _
  case pullCommit =>
    split
    · exact ranges.of_view (rangeView_answerOut s)
    · exact ranges
  case readEventsCommit =>
    split
    · exact ranges.of_view (rangeView_answerOut s)
    · exact ranges
  case selFalls => exact ranges.of_view (selFalls_view s)
  case selRises => exact selRises_keeps ranges
  case pinReset => exact pinReset_keeps s
  case pinResetRelease => exact pinResetRelease_keeps ranges
  case initialisationEnd => exact initialisationEnd_keeps ranges
  case breakRecognised rx => exact ranges.of_view (rangeView_recogniseBreak s rx)
  case lineDominant =>
    refine ranges.of_view ?_
    unfold State.lineHeld; split <;> rfl
  case heardBoundary =>
    split
    · exact ranges.boundary _
    · exact ranges
  case markTimerExpiry run rx => exact markTimerExpiry_keeps run rx ranges
  case loneStart run => exact loneStart_keeps run ranges
  case shortRunEnd run stopBit => exact shortRunEnd_keeps run stopBit ranges
  case slotStart k rx => exact ranges.of_view (slotStart_view k rx s)
  case windowStart w rx => exact windowStart_keeps w rx ranges
  case gapStart rx => exact ranges.of_view (gapStart_view rx s)
  case attemptStart run rx => exact ranges.of_view (attemptStart_view run rx s)
  case arbitrationMismatch bit => exact ranges.of_view (arbitrationMismatch_view bit s)
  case transmitFault bit => exact ranges.of_view (transmitFault_view bit s)
  case breakAttemptComplete => exact ranges.of_view (breakComplete_view s)
  case attemptComplete => exact attemptComplete_keeps ranges ha
  case markReceived offset sender =>
    exact receiveWhole_keeps (fun _ _ hu => hu.of_view (rangeView_takeMark _ _)) offset ranges
  case slotFrameReceived offset f => exact slotFrameReceived_keeps offset f ranges
  case claimReceived offset sender n slots => exact claimReceived_keeps offset sender n slots ranges
  case releaseReceived offset sender n slots => exact releaseReceived_keeps offset sender n slots ranges
  case objectReceived offset sender n k aux => exact objectReceived_keeps offset sender n k aux ranges
  case receiveError offset bits => exact ranges.of_view (receiveError_view _ s)
  case lapse | confirmed | quarantineEnd | backoffEnd | stalled | closeLimit | faultThreshold | mutePeriodEnd | join =>
    exact named _
  all_goals exact clocked _

/-- Settles O60. -/
theorem stepsKeepRanges : Obligations.StepsKeepRanges := by
  intro s t ha hr hst he h
  rw [← inRange_iff]
  have ranges : InRange s := (inRange_iff s).mpr ⟨hst, he⟩
  have free (resting : Resting s) (k : Slot) : s.map[k].state = .free := by
    obtain ⟨-, -, -, clear, -, -⟩ := hr resting
    rw [clear k]; rfl
  unfold step at h
  split at h
  · cases h; exact ranges
  · next c rest _ =>
    have calm : Calm { s with pending := rest } := ⟨ranges.of_view rfl, free⟩
    obtain ⟨driving, owed, txd, alone, closed, flight, offer⟩ := ha
    exact exec_keeps calm ⟨driving, owed, txd, alone, closed, flight, offer⟩ h

end Sys2Proof.Proofs
end

section
/-! SUPPORT. START, the starts of slots and of the gap, marks and receive errors, and own attempts that end. -/

namespace Sys2Proof.Proofs

open Sys2Proof Sys2Proof.Machine Sys2Proof.Safety

/-! ### START -/

/-- The presentation of a request that is taken without response data. -/
theorem present_taken (s : State) : present (taken s) =
    { s with port := { s.port with phase := .answer, answer := [1], answered := 0 } } := rfl

@[simp] theorem atTaking_station (s : State) (code count : Byte) (args : List Byte) :
    (atTaking s code count args).station = s.station := rfl

@[simp] theorem atTaking_setup (s : State) (code count : Byte) (args : List Byte) :
    (atTaking s code count args).setup = s.setup := rfl

/-- Settles O3: the request is complete at its count, and START is answered by its two checks. -/
theorem startEntersListening : Obligations.StartEntersListening := by
  intro s hs
  have request : exec (.start [0]) s = .next (present (takeStart [] (atTaking s 17 0 []))) :=
    congrArg _ (request_complete (row := { code := 17, needs := (· == 0), take := takeStart }) hs rfl rfl (by decide) rfl)
  rw [request]
  refine ⟨fun offline set => ?_, fun offline unset => ?_, fun awake => ?_⟩
  · rw [takeStart, if_neg (by simp [offline]), if_neg (by simpa using set), present_taken]
    rfl
  · rw [takeStart, if_neg (by simp [offline]), if_pos (by simpa using unset), present_refuse (by decide)]
    rfl
  · rw [takeStart, if_pos (by simpa using awake), present_refuse (by decide)]
    rfl

/-! ### Segment starts -/

/-- With no attempt that is SETTLING there is nothing to settle (R133). -/
theorem settle_eq_self {s : State} (h : ∀ a p, s.line.transmit ≠ .settling a p) : State.settle s = s := by
  unfold State.settle
  split
  · next a e => exact absurd e (h a _)
  · next a e => exact absurd e (h a _)
  · rfl

theorem settle_of_idle {s : State} (h : s.line.transmit = .idle) : State.settle s = s :=
  settle_eq_self fun a p => by rw [h]; nofun

/-- R2: when a segment start is reported. -/
theorem reportsStart_iff (position : Nat) (s : State) :
    State.reportsStart position s = true ↔ StartReported s position := by
  unfold State.reportsStart StartReported
  cases s.timer.position <;> simp [and_assoc]

/-- `Latches` is about the latch alone. -/
theorem latches_of_latch {s t u : State} {p : Flag → Bool} (h : Latches s u p) (e : t.latch = u.latch) : Latches s t p := by
  obtain ⟨set, marked, enables, attn⟩ := h
  simp only [Latches, flagSet, flagMarked, AttnFollows] at *
  rw [e]
  exact ⟨set, marked, enables, attn⟩

theorem latches_one {s t : State} {f : Flag} (h : t.latch = s.latch.causes f.only) : Latches s t (oneFlag f) := by
  refine latches_of_latch (latches_congr (latches_causes (u := s) rfl f.only) fun g => ?_) h
  rw [hasFlag_only, oneFlag, beq_eq_decide]; simp only [eq_comm]

/-- R142: the latch after a receive error, or none. -/
theorem latches_error {s t : State} {e : Bool} (h : t.latch = errorLatch e s.latch) : Latches s t (errorFlag e) := by
  cases e with
  | false => exact latches_congr (latches_none h) fun f => rfl
  | true => exact latches_congr (latches_one h) fun f => by rw [errorFlag, Bool.true_and]; rfl

/-- Settles O41: the gap start is the start of a segment and nothing else. -/
theorem gapStartEndsWindow : Obligations.GapStartEndsWindow := by
  intro s rx reported unsettled
  obtain ⟨opens, whole, transmit, txd, note⟩ := startSegment_spec (settle_eq_self unsettled) .gap gapStartAt rx
  have ran : exec (.gapStart rx) s = .next (State.startSegment .gap gapStartAt rx s) := by
    show Host.Outcome.next (State.gapStart rx s) = _
    rw [State.gapStart, if_pos ((reportsStart_iff _ _).mpr reported)]
  refine ⟨_, ran, opens, ?_, transmit, txd, note, latches_error (congrArg State.latch whole)⟩
  rw [whole]

/-! ### Frame supply (4.4) -/

/-- R91: a supply writes the stream and the transmit side of the line unit, and nothing else. -/
theorem supply_frame (k : Slot) (s : State) : State.supply k s = { s with
    line := { s.line with
      transmit := (State.supply k s).line.transmit, txd := (State.supply k s).line.txd }
    streams := (State.supply k s).streams } := by
  unfold State.supply
  split
  · split
    · simp only [State.supplyFrame]
      split
      · rfl
      · split <;> rfl
    · rfl
  · rfl

/-- R45, R91: a slot with no own stream, or a station that may not drive, is supplied with nothing. -/
theorem supply_none {k : Slot} {s : State} (h : s.mayDrive = false ∨ s.map[k].state.ownHeld s.own = none) :
    State.supply k s = s := by
  unfold State.supply
  split
  · next drives =>
    simp only [Bool.and_eq_true] at drives
    rw [h.resolve_left (by simp [drives.1])]
  · rfl

section Supplied
variable {k : Slot} {n : StreamNo} {s : State} (hd : s.mayDrive = true) (ht : s.line.transmit = .idle)
  (hn : s.map[k].state.ownHeld s.own = some n) (ho : s.streams[n].state ≠ .closed)
include hd ht hn ho

/-- R92: the slot of an own stream with a payload to send. -/
theorem supply_data {payload : List Byte} (hp : s.streams[n].nextPayload = some payload) :
    State.supply k s = State.handOver (.slotFrame k (dataFrame s.own n s.streams[n] payload))
      (State.modifyStream n (Stream.launch payload) s) := by
  rw [State.supply, if_pos (by simp [hd, ht]), hn]
  simp only [State.supplyFrame]
  rw [if_neg ho, hp]

/-- R93: the slot of an own stream without one. -/
theorem supply_keep (hp : s.streams[n].nextPayload = none) :
    State.supply k s = State.handOver (.slotFrame k (keepFrame s.own n s.streams[n])) s := by
  rw [State.supply, if_pos (by simp [hd, ht]), hn]
  simp only [State.supplyFrame]
  rw [if_neg ho, hp]

end Supplied

/-- R91, R92: the payload that is sent, and when a KEEP frame is. -/
theorem nextPayload_some {st : Stream} {payload : List Byte} {rest : List (List Byte)} (ho : StreamIsOpen st)
    (hs : st.suspended = false) (hq : st.queue = payload :: rest) : st.nextPayload = some payload := by
  simp [Stream.nextPayload, (isOpen_iff st).mpr ho, hs, hq]

theorem nextPayload_none {st : Stream} (h : ¬ StreamIsOpen st ∨ st.suspended = true ∨ st.queue = []) :
    st.nextPayload = none := by
  unfold Stream.nextPayload
  split
  · next sends =>
    simp only [Bool.and_eq_true, isOpen_iff, Bool.not_eq_true'] at sends
    rcases h with closed | suspended | empty
    · exact absurd sends.1 closed
    · simp [suspended] at sends
    · simp [empty]
  · rfl

/-- A segment start with later changes of the attempt and the lost note alone. -/
theorem segmentOpens_of_attempt {g : Segment} {position : Nat} {rx : Option Stretch} {s u t : State}
    (h : SegmentOpens g position rx s u) (ht : t.timer = u.timer)
    (hl : t.line = { u.line with transmit := t.line.transmit, txd := t.line.txd, lostNote := t.line.lostNote }) :
    SegmentOpens g position rx s t :=
  ⟨ht.trans h.timer, by rw [hl, h.line]⟩

/-- The state in which the stream contexts are asked at the start of slot k (R45, R91). -/
def atSlotStart (k : Slot) (rx : Option Stretch) (s : State) : State :=
  let opened := State.clearLostNote (State.startSegment (.slot k) (slotStartAt k) rx s)
  { opened with map := opened.map.reach k }

theorem slotStart_eq {k : Slot} {s : State} (h : StartReported s (slotStartAt k)) (rx : Option Stretch) :
    State.slotStart k rx s = State.supply k (atSlotStart k rx s) := by
  rw [State.slotStart, if_pos ((reportsStart_iff _ _).mpr h)]
  rfl

/-- Settles O40: the segment opens, and then the stream that holds the slot supplies it. -/
theorem slotStartSupplies : Obligations.SlotStartSupplies := by
  intro s k rx reported idle
  obtain ⟨opens, whole, transmit, txd, -⟩ :=
    startSegment_spec (settle_of_idle idle) (.slot k) (slotStartAt k) rx
  have ran : exec (.slotStart k rx) s = .next (State.supply k (atSlotStart k rx s)) :=
    congrArg _ (slotStart_eq reported rx)
  have asked : atSlotStart k rx s = { s with
      timer := (atSlotStart k rx s).timer, line := (atSlotStart k rx s).line, map := s.map.reach k
      latch := errorLatch (cutShort s rx) s.latch } := by
    simp only [atSlotStart, State.clearLostNote]
    rw [whole]
  have idleThen : (atSlotStart k rx s).line.transmit = .idle := transmit.trans idle
  have txdThen : (atSlotStart k rx s).line.txd = s.line.txd := txd
  have noteThen : (atSlotStart k rx s).line.lostNote = false := rfl
  have opensThen : SegmentOpens (.slot k) (slotStartAt k) rx s (atSlotStart k rx s) :=
    segmentOpens_of_attempt opens rfl rfl
  have entry : (s.map.reach k)[k].state = s.map[k].state := by simp [SlotMap.reach]
  generalize atSlotStart k rx s = u at *
  have setup : u.setup = s.setup := by rw [asked]
  have drives : u.mayDrive = s.mayDrive := by rw [asked]; rfl
  have streams : u.streams = s.streams := by rw [asked]
  have holder : u.map[k].state.ownHeld u.own = s.map[k].state.ownHeld s.setup.address := by
    rw [asked]; exact congrArg _ entry
  have supplied := supply_frame k u
  refine ⟨_, ran, ?_, ?_, latches_error ?_, ?_, fun none => ?_, fun n may holds awake => ?_⟩
  · exact segmentOpens_of_attempt opensThen (by rw [supplied]) (by rw [supplied])
  · rw [supplied, asked]; rfl
  · rw [supplied, asked]
  · rw [supplied]; exact noteThen
  · rw [supply_none (by rwa [drives, holder])]
    exact ⟨idleThen, txdThen, streams⟩
  · rw [← drives] at may
    rw [← holder] at holds
    rw [← streams] at awake ⊢
    refine ⟨?_, fun payload rest opened running queue => ?_, fun h => ?_⟩
    · cases hp : u.streams[n].nextPayload with
      | some payload => rw [supply_data may idleThen holds awake hp]; rfl
      | none => rw [supply_keep may idleThen holds awake hp]; rfl
    · rw [supply_data may idleThen holds awake (nextPayload_some opened running queue)]
      refine ⟨?_, ?_⟩
      · rw [State.handOver_transmit, dataFrame, State.own, setup]
      · show u.streams.set n (Stream.launch payload u.streams[n]) = _
        rw [Stream.launch, queue]; rfl
    · rw [supply_keep may idleThen holds awake (nextPayload_none h)]
      refine ⟨?_, rfl⟩
      rw [State.handOver_transmit, keepFrame, State.own, setup]

end Sys2Proof.Proofs
end

section
/-! SUPPORT. Marks and receive errors, and own attempts that end COMPLETE or FAULT. -/

namespace Sys2Proof.Proofs

open Sys2Proof Sys2Proof.Machine Sys2Proof.Safety

/-! ### Marks and receive errors -/

/-- R7: a mark character, where the source is still open. -/
theorem takeMark_eq (sender : Nat) (s : State) : State.takeMark sender s = { s with
    timer := if s.timer.markSettled = true then s.timer else { s.timer with markSource := sender, markSettled := true } } := by
  unfold State.takeMark; split <;> rfl

/-- R138, R143: a whole frame that is to be delivered, and is legal, is delivered. -/
theorem receiveWhole_delivers {s : State} {offset : Nat} (h : Delivers s offset) (deliver : State → State) :
    State.receiveWhole true offset true deliver s = deliver { s with line := frameEnded s.line } := by
  obtain ⟨receiver, condition, idle, placed⟩ := h
  have outcome : s.outcomeTaken = true := by simp [State.outcomeTaken, idle]
  have fits : (decide (offset < placementLimit) && true) = true := by
    rw [Bool.and_true, decide_eq_true_eq]; exact placed
  rw [State.receiveWhole, if_pos (by simp [receiver, outcome])]
  dsimp only
  rw [settle_of_idle (s := State.atRun 0 s) idle, if_pos fits]
  have ended : State.endFrame (State.atRun 0 s) = { s with line := frameEnded s.line } := rfl
  rw [ended]
  rcases condition with c | c
  · have : (State.atRun 0 s).line.condition = .opened := c
    rw [this]
  · have : (State.atRun 0 s).line.condition = .receiving := c
    rw [this]

/-- R142: a receive error that counts. -/
theorem rxError_counted {s : State} (h : s.countsErrors = true) : State.rxError s = { s with
    timer := if s.line.segment = .markTail then { s.timer with markSource := 0, markSettled := true } else s.timer
    latch := errorLatch true s.latch
    line := { s.line with rxErrors := Counter.raise s.line.rxErrors 1, condition := .discarding, assembly := none } } := by
  rw [rxError_eq]
  simp [h, errorTimer, errorCount]

/-- R138, R140, R141: a reception that is an error of the segment. -/
theorem receptionFails_iff (r : Reception) (s : State) :
    s.receptionFails r = true ↔ s.line.condition = .ended ∨ ∃ e, judgeReception s.line.segment r = .error e := by
  unfold State.receptionFails
  cases judgeReception s.line.segment r <;> simp

/-- R130, R138: what RXD has carried shows an error. -/
theorem showsError_iff (heard : Stretch) (s : State) :
    s.showsError heard = true ↔ (Stretch.received heard).framing = true ∨
      ∃ r, Stretch.reception heard = some r ∧
        (s.line.condition = .ended ∨ ∃ e, judgeReception s.line.segment r = .error e) := by
  simp [State.showsError, receptionFails_iff, Option.any_eq_true]

/-- R142: where errors are counted. -/
theorem countsErrors_iff (s : State) : s.countsErrors = true ↔
    s.line.receiver = true ∧ s.line.segment ≠ .outside ∧ s.line.condition ≠ .discarding := by
  simp [State.countsErrors, and_assoc]

/-- Settles O50: a placed and legal mark is delivered to the cycle timer; a shown error counts unless one has. -/
theorem marksAndReceiveErrors : Obligations.MarksAndReceiveErrors := by
  refine ⟨fun s offset sender delivers tail low high => ?_, fun s offset bits receiver inside => ?_⟩
  · have admits : (s.line.segment == .markTail) = true := by simp [tail]
    have legal : addressFits sender = true := (addressFits_iff sender).mpr ⟨low, high⟩
    show Host.Outcome.next (State.markReceived offset sender s) = _
    rw [State.markReceived, admits, legal, receiveWhole_delivers delivers, takeMark_eq]
  · intro heard shows
    have ran : exec (.receiveError offset bits) s = .next (State.receiveError heard s) := rfl
    rw [ran]
    refine ⟨fun fresh => ⟨_, rfl, ?_⟩, fun counted => ?_⟩
    · have counts : s.countsErrors = true := (countsErrors_iff s).mpr ⟨receiver, inside, fresh⟩
      have noted : (State.noteRun (some heard) s).countsErrors = true := counts
      rw [State.receiveError, if_pos (by rw [counts, (showsError_iff heard s).mpr shows]; rfl), rxError_counted noted]
      exact ⟨rfl, latches_congr (latches_error (e := true) rfl) fun f => by simp [errorFlag, oneFlag]⟩
    · have silent : ¬ s.countsErrors = true := fun h => ((countsErrors_iff s).mp h).2.2 counted
      rw [State.receiveError, if_neg (by simp [silent])]

/-! ### Own attempts that end COMPLETE -/

/-- R61: the record of a slot in the set of an own OBJECT. -/
theorem objectQueue_eq (slots : SlotSet) (q : List Record) :
    (q.filter fun r => !(SlotSet.toList slots).any fun k => r.isObjectOf k) =
      q.filter fun r => match r with | .object k => !SlotSet.has slots k | .release _ _ => true := by
  refine List.filter_congr fun r _ => ?_
  cases r with
  | object j =>
    have named : ((SlotSet.toList slots).any fun k => (Record.object j).isObjectOf k) = SlotSet.has slots j := by
      rw [Bool.eq_iff_iff]
      simp [SlotSet.toList, allSlots, Record.isObjectOf]
    rw [named]
  | release n set => simp [Record.isObjectOf]

/-- Settles O49. -/
theorem objectAndMarkComplete : Obligations.ObjectAndMarkComplete := by
  refine ⟨fun s w a driving object => ?_, fun s sender driving => ?_⟩
  · have ended : State.endFrame s.endAttempt = { s with line := completedLine s.line } := rfl
    have completes : State.announcementComplete a (State.endFrame s.endAttempt) = { s with
        line := completedLine s.line
        ann := { offer := none, queue := s.ann.queue.filter fun r =>
          match r with | .object k => !SlotSet.has a.slots k | .release _ _ => true } } := by
      simp only [State.announcementComplete, object, ended, State.objectComplete]
      rw [objectQueue_eq]; rfl
    have ran : exec .attemptComplete s = .next (State.changing
        (fun s => State.announcementComplete a (State.endFrame s.endAttempt)) s) := by
      show Host.Outcome.next s.attemptComplete = _
      rw [State.attemptComplete, driving]
    refine ⟨_, ran, ?_, ?_⟩
    · simp only [State.changing, completes]; rfl
    · simp only [State.changing, completes]
      refine latches_congr (latches_noteChanges (latches_none rfl)) fun f => ?_
      cases f <;> simp [noFlag, changeFlags]
  · show Host.Outcome.next s.attemptComplete = _
    rw [State.attemptComplete, driving]
    exact congrArg _ (takeMark_eq sender (State.endFrame s.endAttempt))

/-! ### Own attempts that end FAULT -/

/-- `AttemptFails` where only the line differs before the end, and only the line, the timer and the latch after it. -/
theorem attemptFails_congr {o : Option Provisional} {a : Attempt} {s s' u t : State} (h : AttemptFails o a s' u)
    (hs : s' = { s with line := s'.line }) (hl : t.line.transmit = .idle ∧ t.line.txd = .recessive)
    (ht : t = { u with line := t.line, timer := t.timer, latch := t.latch }) : AttemptFails o a s t := by
  obtain ⟨-, station, ann, streams, buffers⟩ := h
  rw [hs] at station ann streams buffers
  refine ⟨hl, ?_, ?_, fun n => ?_, ?_⟩
  · rw [ht]; exact station
  · rw [ht]; exact ann
  · rw [ht]; exact streams n
  · rw [ht]; exact buffers

/-- R11, R12: the cycle timer after a FAULT on the own break at one of its bits. -/
def faultedTimer (bit : Nat) (own : Nat) (t : Timer) : Timer :=
  let fault := match t.breakStart with
    | some start => t.position.map (max (start + bit))
    | none => t.position
  if t.breakInProgress = true then { t with markOwed := false }
  else { t with
    markOwed := false, awaitingRun := false, runStart := none, position := fault
    markTimer := match fault with
      | some p => .armed (p + 10 * (4 + own))
      | none => .armedCount (4 + own) }

theorem rearm_eq (s : State) : State.rearm s = { s with timer := { s.timer with
    markTimer := match s.timer.position with
      | some p => .armed (p + 10 * (4 + s.setup.address))
      | none => .armedCount (4 + s.setup.address) } } := by
  unfold State.rearm
  cases s.timer.position <;> rfl

theorem breakFault_eq (bit : Nat) (s : State) :
    State.breakFault bit s = { s with timer := faultedTimer bit s.setup.address s.timer } := by
  simp only [State.breakFault, faultedTimer]
  split
  · rfl
  · rw [rearm_eq]; rfl

/-- R127: the frame under assembly when bit `bit` of the attempt is sent. -/
theorem assembled_eq (a : Attempt) (bit : Nat) (s : State) : State.assembled a bit s = { s with
    line := { s.line with assembly := s.line.assembly.map fun r =>
      if r.offset = a.firstBit then { r with chars := a.chars.take (bit / 10) } else r } } := by
  have each : a.assembled bit = fun r => if r.offset = a.firstBit then { r with chars := a.chars.take (bit / 10) } else r := by
    funext r
    simp [Attempt.assembled, Attempt.beganBy]
  rw [State.assembled, each]

/-- R127: a character that the receive side has begun is none where its segment is RECEIVING. -/
theorem noCharacter_eq (s : State) : s.noCharacter = { s with line := { s.line with
    condition := if s.line.condition = .receiving then .opened else s.line.condition
    assembly := if s.line.condition = .receiving then none else s.line.assembly } } := by
  unfold State.noCharacter
  split <;> rfl

section DominantFault
variable (a : Attempt) (bit : Nat) (s : State)

/-- R132: the line of the attempt's end, before the receive side is put right. -/
theorem attemptFault_line : (State.attemptFault a (State.atRun 0 s)).line =
    { s.line with transmit := .idle, txd := .recessive, dominantRun := 0 } := by
  rw [(attemptFault_spec a (State.atRun 0 s)).2]; rfl

theorem attemptFault_timer : (State.attemptFault a (State.atRun 0 s)).timer = s.timer := by
  rw [(attemptFault_spec a (State.atRun 0 s)).2]; rfl

theorem attemptFault_setup : (State.attemptFault a (State.atRun 0 s)).setup = s.setup := by
  rw [(attemptFault_spec a (State.atRun 0 s)).2]; rfl

/-- R11: on the own break the timer is armed again; the receive side stays. -/
theorem dominantFault_break : State.dominantFault .brk bit s = { State.attemptFault .brk (State.atRun 0 s) with
    timer := faultedTimer bit s.setup.address s.timer } := by
  simp only [State.dominantFault, if_true]
  rw [breakFault_eq, attemptFault_setup, attemptFault_timer]

/-- R127: at the first bit of a frame the character that this bit began is none. -/
theorem dominantFault_first (ha : a ≠ .brk) :
    State.dominantFault a 0 s = { State.attemptFault a (State.atRun 0 s) with line := { s.line with
      transmit := .idle, txd := .recessive, dominantRun := 0
      condition := if s.line.assembly.any a.beganBy = true ∧ s.line.condition = .receiving then .opened
        else s.line.condition
      assembly := if s.line.assembly.any a.beganBy = true ∧ s.line.condition = .receiving then none
        else s.line.assembly } } := by
  simp only [State.dominantFault, if_neg ha, if_true, noCharacter_eq, attemptFault_line]
  by_cases began : s.line.assembly.any a.beganBy = true
  · simp only [began, if_true, true_and]
  · simp only [began, Bool.false_eq_true, if_false, false_and]
    exact congrArg (fun l => { State.attemptFault a (State.atRun 0 s) with line := l }) (attemptFault_line a s)

/-- R127: at a later bit of a frame the characters sent have been assembled. -/
theorem dominantFault_later (ha : a ≠ .brk) (hb : bit ≠ 0) :
    State.dominantFault a bit s = { State.attemptFault a (State.atRun 0 s) with line := { s.line with
      transmit := .idle, txd := .recessive, dominantRun := 0
      assembly := s.line.assembly.map fun r =>
        if r.offset = a.firstBit then { r with chars := a.chars.take (bit / 10) } else r } } := by
  simp only [State.dominantFault, if_neg ha, if_neg hb, assembled_eq, attemptFault_line]

end DominantFault

/-- Settles O45: the attempt ends FAULT; then the own break arms the timer, or the receive side is put right. -/
theorem transmitFaultEndsAttempt : Obligations.TransmitFaultEndsAttempt := by
  intro s a bit driving dominant fault began
  obtain ⟨fails, whole⟩ := attemptFault_spec a (State.atRun 0 s)
  have line := attemptFault_line a s
  have ran : exec (.transmitFault bit) s = .next (State.dominantFault a bit s) := by
    show Host.Outcome.next (State.transmitFault bit s) = _
    rw [State.transmitFault, driving]
    simp only [dominant, if_true]
  refine ⟨_, ran, ?_⟩
  by_cases ha : a = .brk
  · subst ha
    rw [dominantFault_break]
    generalize State.attemptFault .brk (State.atRun 0 s) = u at *
    refine ⟨attemptFails_congr fails rfl (by rw [line]; exact ⟨rfl, rfl⟩) rfl, ?_, ?_⟩
    · rw [whole]; rfl
    · simp [line]
  · by_cases hb : bit = 0
    · subst hb
      have own : s.line.assembly.any a.beganBy = true ↔ began := by
        simp [began, Option.any_eq_true, Attempt.beganBy]
      rw [dominantFault_first a s ha]
      generalize State.attemptFault a (State.atRun 0 s) = u at *
      refine ⟨attemptFails_congr fails rfl ⟨rfl, rfl⟩ rfl, ?_, ?_⟩
      · rw [whole]; simp [ha]
      · simp only [own, ha, if_false, ne_eq, not_false_iff, if_true, true_and]
    · rw [dominantFault_later a bit s ha hb]
      generalize State.attemptFault a (State.atRun 0 s) = u at *
      refine ⟨attemptFails_congr fails rfl ⟨rfl, rfl⟩ rfl, ?_, ?_⟩
      · rw [whole]; simp [ha]
      · simp [ha, hb]

end Sys2Proof.Proofs
end

section
/-! SUPPORT. The mark timer and the lone start, the runs that they wait on, and the recognition of a break. -/

namespace Sys2Proof.Proofs

open Sys2Proof Sys2Proof.Machine Sys2Proof.Safety

/-! ### Expiry -/

/-- R8, R12: the cycle timer at the expiry of the mark timer. -/
def expiredTimer (t : Timer) : Timer := { t with
  markTimer := .disarmed
  position := match t.markTimer with
    | .armed expiry => t.position.map (max expiry)
    | _ => t.position }

theorem expire_eq (run : Nat) (s : State) : State.expire run s = { s with
    timer := expiredTimer s.timer, line := { s.line with dominantRun := run } } := by
  unfold State.expire expiredTimer
  split <;> simp_all [State.atRun, State.atPosition]

/-- R9, R16, R131: a break is handed over to an idle transmitter. -/
theorem handBreak_idle {s : State} (h : s.line.transmit = .idle) : State.handBreak s = { s with
    timer := { s.timer with markOwed := true, breakStart := s.timer.position }
    line := { s.line with transmit := .driving .brk, txd := .dominant } } := by
  rw [State.handBreak, if_pos h]; rfl

theorem handBreak_busy {s : State} (h : s.line.transmit ≠ .idle) : State.handBreak s = s := by
  rw [State.handBreak, if_neg h]

theorem mayDrive_iff (s : State) : s.mayDrive = true ↔ s.station.state = .active ∨ s.station.state = .leaving := by
  simp [State.mayDrive]

/-- R16, R152: the lone-start report of a station with an idle transmitter. -/
theorem loneStartReport_idle {s : State} (h : s.line.transmit = .idle) : State.loneStartReport s = { s with
    station := { s.station with state := .active, startedTrunk := true }
    timer := { s.timer with loneStart := 0, markOwed := true, breakStart := s.timer.position }
    line := { s.line with transmit := .driving .brk, txd := .dominant }
    latch := s.latch.causes Flag.joined.only } := by
  rw [State.loneStartReport, handBreak_idle (by exact h)]; rfl

section Expiry
variable {s : State} (hr : s.timer.running = true) (hb : s.timer.breakInProgress = false)
  (hm : s.timer.markTimer ≠ .disarmed) (rx : Option Stretch)
include hr hb hm

/-- R12: an expiry on a dominant line waits for the run. -/
theorem markTimerExpiry_dominant {run : Nat} (h : 1 ≤ run) : State.markTimerExpiry run rx s =
    State.keepRunStart run { State.expire run s with
      timer := { (State.expire run s).timer with awaitingRun := true } } := by
  rw [State.markTimerExpiry, if_pos (by simp [hr, hb, hm])]
  dsimp only
  rw [if_neg (by omega)]

/-- R13: on a recessive line it does nothing more in LISTENING. -/
theorem markTimerExpiry_listening (h : s.station.state = .listening) :
    State.markTimerExpiry 0 rx s = State.expire 0 s := by
  rw [State.markTimerExpiry, if_pos (by simp [hr, hb, hm])]
  dsimp only
  rw [if_pos rfl, h]

/-- R9: in ACTIVE and LEAVING it hands over a break. -/
theorem markTimerExpiry_drives (h : s.mayDrive = true) :
    State.markTimerExpiry 0 rx s = State.handBreak (State.expire 0 s) := by
  rw [State.markTimerExpiry, if_pos (by simp [hr, hb, hm])]
  dsimp only
  rw [if_pos rfl]
  rcases (mayDrive_iff s).mp h with h | h <;> rw [h]

/-- R14: in MUTED it is a boundary. -/
theorem markTimerExpiry_muted (h : s.station.state = .muted) :
    State.markTimerExpiry 0 rx s = State.boundary .synthesized (State.noteReception rx (State.expire 0 s)) := by
  rw [State.markTimerExpiry, if_pos (by simp [hr, hb, hm])]
  dsimp only
  rw [if_pos rfl, h]

end Expiry

/-- Settles O37: both timers by the level of the line, the mark timer by the station's state besides. -/
theorem timersExpire : Obligations.TimersExpire := by
  refine ⟨fun s run rx running quiet armed => ?_, fun s run running quiet listening => ?_⟩
  · intro expired
    have ran : exec (.markTimerExpiry run rx) s = .next (State.markTimerExpiry run rx s) := rfl
    rw [ran]
    refine ⟨fun recessive listening => ?_, fun recessive drives idle => ?_, fun recessive drives busy => ?_,
      fun dominant => ?_⟩
    · rw [recessive, markTimerExpiry_listening running quiet armed rx listening, expire_eq]; rfl
    · rw [recessive, markTimerExpiry_drives running quiet armed rx drives, expire_eq, handBreak_idle (by exact idle)]; rfl
    · rw [recessive, markTimerExpiry_drives running quiet armed rx drives, expire_eq, handBreak_busy (by exact busy)]; rfl
    · rw [markTimerExpiry_dominant running quiet armed rx dominant, expire_eq]; rfl
  · intro position
    have ran : exec (.loneStart run) s = .next (State.loneStart run s) := rfl
    rw [ran, State.loneStart, if_pos (by simp [running, quiet, listening])]
    refine ⟨fun recessive idle => ⟨_, rfl, ?_⟩, fun dominant => ?_⟩
    · dsimp only
      rw [if_pos recessive, loneStartReport_idle (by exact idle), recessive]
      exact ⟨rfl, latches_one rfl⟩
    · dsimp only
      rw [if_neg (by omega)]; rfl

end Sys2Proof.Proofs
end

section
/-! SUPPORT. Boundaries: the commands that bring one, and what it does in the cycle timer and the line unit. -/

namespace Sys2Proof.Proofs

open Sys2Proof Sys2Proof.Machine Sys2Proof.Safety

/-! ### The boundary that a command takes -/

theorem heardDue_iff (s : State) : s.heardDue = true ↔ BoundaryDue s .heard := by
  rw [State.heardDue, Bool.and_eq_true]; rfl

/-- R5, R14: the boundary that the line or the mark timer can bring next. -/
theorem boundaryDue_eq_some (s : State) (kind : BoundaryKind) :
    s.boundaryDue = some kind ↔ BoundaryDue s kind ∧ LineAllows s kind := by
  cases hr : s.timer.running <;> cases hb : s.timer.breakInProgress <;> cases kind <;>
    simp [State.boundaryDue, State.heardDue, State.synthesizedDue, BoundaryDue, hr, hb, and_assoc]

/-- A boundary named by its effect is taken where one is due that has the effect. -/
theorem boundaryWith_taken {s : State} {p : BoundaryKind → Bool} {kind : BoundaryKind} (hd : BoundaryDue s kind)
    (hl : LineAllows s kind) (hp : p kind = true) : State.boundaryWith p s = State.boundary kind s := by
  rw [State.boundaryWith, (boundaryDue_eq_some s kind).mpr ⟨hd, hl⟩]
  exact if_pos hp

/-- It changes nothing where none is. -/
theorem boundaryWith_none {s : State} {p : BoundaryKind → Bool}
    (h : ∀ kind, BoundaryDue s kind → LineAllows s kind → p kind ≠ true) : State.boundaryWith p s = s := by
  unfold State.boundaryWith
  split
  · next kind due =>
    obtain ⟨hd, hl⟩ := (boundaryDue_eq_some s kind).mp due
    exact if_neg (h kind hd hl)
  · rfl

section Causes
variable (s : State)

theorem lapseDue_iff (k : Slot) : s.lapseDue k = true ↔ Lapses s k := by
  unfold State.lapseDue Entry.lapses Lapses
  cases s.map[k].state <;> simp [and_assoc]

theorem confirmDue_iff (k : Slot) : s.confirmDue k = true ↔ Confirms s k := by
  unfold State.confirmDue Entry.confirms Confirms
  cases s.map[k].state <;> simp [Nat.sub_eq_zero_iff_le]

theorem quarantineEndDue_iff (k : Slot) :
    s.quarantineEndDue k = true ↔ ∃ c, s.map[k].state = .quarantine c ∧ c ≤ 1 := by
  unfold State.quarantineEndDue Entry.quarantineEnds
  cases s.map[k].state <;> simp [Nat.sub_eq_zero_iff_le]

theorem stallDue_iff (n : StreamNo) : s.stallDue n = true ↔ Stalls s n := by
  have limit : stallLimit = 64 := rfl
  simp only [State.stallDue, Stream.countsStall, Stalls, Bool.and_eq_true, beq_iff_eq, decide_eq_true_eq]
  constructor
  · rintro ⟨⟨⟨⟨active, claiming⟩, pending⟩, -⟩, stall⟩
    exact ⟨active, claiming, pending, by omega⟩
  · rintro ⟨active, claiming, pending, stall⟩
    exact ⟨⟨⟨⟨active, claiming⟩, pending⟩, by omega⟩, by omega⟩

theorem closeLimitDue_iff (n : StreamNo) : s.closeLimitDue n = true ↔ ReachesCloseLimit s n := by
  simp [State.closeLimitDue, closeLimitCount, ReachesCloseLimit]

theorem faultThresholdDue_iff : s.faultThresholdDue = true ↔ s.mayDrive = true ∧ 8 ≤ nextFaulty s := by
  rw [State.faultThresholdDue, Bool.and_eq_true, decide_eq_true_eq]; rfl

theorem muteEndDue_iff : s.muteEndDue = true ↔ s.station.state = .muted ∧ s.station.muteRemaining ≤ 1 := by
  simp [State.muteEndDue, Nat.sub_eq_zero_iff_le]

theorem joinDue_iff : s.joinDue = true ↔ s.station.state = .listening ∧ 2 ≤ s.station.listenCount := by
  simp [State.joinDue, joinCount]

end Causes

/-- Log entry 4: a command that names a boundary by its effect is a boundary with a question, and the question is whether
it brings the effect about. -/
theorem names_boundaryWith (s : State) {c : Instr} (h : NamesBoundary c) : c = .heardBoundary ∨
    ∃ p : BoundaryKind → Bool, exec c s = .next (State.boundaryWith p s) ∧
      ∀ kind, Brings s kind c ↔ LineAllows s kind ∧ p kind = true := by
  cases c with
  | heardBoundary => exact .inl rfl
  | lapse k => exact .inr ⟨_, rfl, fun kind => and_congr_right' (lapseDue_iff s k).symm⟩
  | confirmed k => exact .inr ⟨_, rfl, fun kind => and_congr_right' (confirmDue_iff s k).symm⟩
  | quarantineEnd k => exact .inr ⟨_, rfl, fun kind => and_congr_right' (quarantineEndDue_iff s k).symm⟩
  | backoffEnd n => exact .inr ⟨_, rfl, fun kind => and_congr_right' (by simp [State.backoffEndDue])⟩
  | stalled n => exact .inr ⟨_, rfl, fun kind => and_congr_right' (stallDue_iff s n).symm⟩
  | closeLimit n => exact .inr ⟨_, rfl, fun kind => and_congr_right' (closeLimitDue_iff s n).symm⟩
  | faultThreshold => exact .inr ⟨_, rfl, fun kind => and_congr_right' (faultThresholdDue_iff s).symm⟩
  | mutePeriodEnd => exact .inr ⟨_, rfl, fun kind => and_congr_right' (muteEndDue_iff s).symm⟩
  | join => exact .inr ⟨_, rfl, fun kind => by cases kind <;> simp [Brings, LineAllows, joinDue_iff]⟩
  | _ => exact h.elim

/-- Settles O36: HEARD_BOUNDARY needs a break in progress, and the others a boundary with their effect. -/
theorem namedBoundariesNeedTheirCause : Obligations.NamedBoundariesNeedTheirCause := by
  intro s c names none
  rcases names_boundaryWith s names with rfl | ⟨p, ran, brings⟩
  · have notDue : ¬ s.heardDue = true := fun due => none .heard ⟨(heardDue_iff s).mp due, rfl⟩
    exact congrArg _ (if_neg notDue)
  · rw [ran, boundaryWith_none fun kind due allows caused => none kind ⟨due, (brings kind).mpr ⟨allows, caused⟩⟩]

/-- The state in which the boundary of a command is taken: the expiry comes before a synthesized one (R14). -/
def boundaryState (s : State) : Instr → State
  | .markTimerExpiry run rx => State.noteReception rx (State.expire run s)
  | _ => s

theorem boundaryState_named (s : State) {c : Instr} (h : NamesBoundary c) : boundaryState s c = s := by
  cases c with
  | markTimerExpiry => exact h.elim
  | _ => rfl

theorem boundaryReception_named {c : Instr} (h : NamesBoundary c) : boundaryReception c = none := by
  cases c with
  | markTimerExpiry => exact h.elim
  | _ => rfl

theorem brings_names {s : State} {kind : BoundaryKind} {c : Instr} (h : Brings s kind c) :
    NamesBoundary c ∨ ∃ run rx, c = .markTimerExpiry run rx := by
  cases c
  case markTimerExpiry run rx => exact .inr ⟨run, rx, rfl⟩
  case heardBoundary | lapse | confirmed | quarantineEnd | backoffEnd | stalled | closeLimit | faultThreshold
      | mutePeriodEnd | join => exact .inl trivial
  all_goals exact h.elim

/-- A command that takes a boundary takes it whole. -/
theorem exec_boundary {s : State} {kind : BoundaryKind} {c : Instr} (h : TakesBoundary s kind c) :
    exec c s = .next (State.boundary kind (boundaryState s c)) := by
  obtain ⟨due, brings⟩ := h
  rcases brings_names brings with names | ⟨run, rx, rfl⟩
  · rw [boundaryState_named s names]
    rcases names_boundaryWith s names with rfl | ⟨p, ran, iff⟩
    · have heard : kind = .heard := brings
      subst heard
      exact congrArg _ (if_pos ((heardDue_iff s).mpr due))
    · obtain ⟨allows, caused⟩ := (iff kind).mp brings
      rw [ran, boundaryWith_taken due allows caused]
  · obtain ⟨rfl, rfl⟩ : kind = .synthesized ∧ run = 0 := brings
    obtain ⟨running, quiet, armed, muted⟩ := due
    exact congrArg _ (markTimerExpiry_muted running quiet armed rx muted)

/-! ### The cycle timer and the line unit at a boundary -/

/-- R5, R137: what the new cycle makes of the state `w` whose segment has ended as `rx` shows it, before a mark is handed
over. -/
def cycleOpened (kind : BoundaryKind) (rx : Option Stretch) (w : State) : State := { w with
  timer := (errorTimer (cutShort w rx) w).boundary kind w.setup.address
  latch := errorLatch (cutShort w rx) w.latch
  line := { w.line with
    dominantRun := 0, segment := .markTail, condition := .opened, assembly := none
    rxErrors := errorCount (cutShort w rx) w.line.rxErrors } }

/-- R5, R10, R14. -/
theorem openCycle_eq {kind : BoundaryKind} {rx : Option Stretch} {u w : State}
    (h : State.closeSegment none (State.endBreak u) = State.closeSegment rx w) :
    State.openCycle kind u = match kind with
      | .heard => State.handMark (cycleOpened kind rx w)
      | .synthesized => cycleOpened kind rx w := by
  obtain ⟨c, a, closed⟩ := closeSegment_spec rx w
  simp only [State.openCycle, h, closed]
  cases kind <;> rfl

/-- What station control leaves of the cycle timer and the line unit at a boundary: a leave that ends stops both, entry to
MUTED ends the attempt, entry to LISTENING starts the lone-start count again, and otherwise they stay. -/
theorem stationBoundary_timer_line (kind : BoundaryKind) (s : State) :
    let t := State.stationBoundary kind s.station.state s
    (Leaves s t ∧ t.timer = s.timer.stopped ∧ t.line = s.line.off) ∨
    (¬ Leaves s t ∧ t.mayDrive = false ∧ t.timer = { s.timer with markOwed := false } ∧
      t.line = { s.line with transmit := .idle, txd := .recessive }) ∨
    (¬ Leaves s t ∧ s.mayDrive = false ∧ t.timer = { s.timer with loneStart := 0 } ∧ t.line = s.line) ∨
    (¬ Leaves s t ∧ (s.mayDrive = true → t.mayDrive = true) ∧ t.timer = s.timer ∧ t.line = s.line) := by
  have stays {t : State} (hst : t.station.state = s.station.state) (ht : t.timer = s.timer) (hl : t.line = s.line) :
      ¬ Leaves s t ∧ (s.mayDrive = true → t.mayDrive = true) ∧ t.timer = s.timer ∧ t.line = s.line := by
    refine ⟨fun ⟨leaving, offline⟩ => ?_, fun h => ?_, ht, hl⟩
    · rw [hst, leaving] at offline; cases offline
    · rw [mayDrive_iff] at h ⊢; rwa [hst]
  intro t
  cases h : s.station.state with
  | initialising | offline =>
    have : t = s := by simp only [t, h, State.stationBoundary]
    rw [this]
    exact .inr (.inr (.inr (stays rfl rfl rfl)))
  | listening =>
    have idle : s.mayDrive = false := by simp [State.mayDrive, h]
    have same : t.timer = s.timer ∧ t.line = s.line := by
      simp only [t, h, State.stationBoundary]
      cases kind with
      | synthesized => exact ⟨rfl, rfl⟩
      | heard => dsimp only; split <;> exact ⟨rfl, rfl⟩
    exact .inr (.inr (.inr ⟨fun leaves => (nomatch h.symm.trans leaves.1), by simp [idle], same⟩))
  | active =>
    have awake : ¬ Leaves s t := fun leaves => nomatch h.symm.trans leaves.1
    by_cases mutes : faultThresholdCount ≤ faultyCount s.takeVerdict.station.window
    · have : t = s.takeVerdict.enterMuted := by simp only [t, h, State.stationBoundary, if_pos mutes]
      refine .inr (.inl ⟨awake, ?_, ?_, ?_⟩) <;> rw [this]
      · simp [State.mayDrive]
      · simp
      · simp
    · have : t = s.takeVerdict := by simp only [t, h, State.stationBoundary, if_neg mutes]
      rw [this]
      exact .inr (.inr (.inr (stays rfl rfl rfl)))
  | muted =>
    have awake : ¬ Leaves s t := fun leaves => nomatch h.symm.trans leaves.1
    have idle : s.mayDrive = false := by simp [State.mayDrive, h]
    simp only [t, h, State.stationBoundary] at awake ⊢
    split at awake
    · next elapsed =>
      rw [if_pos elapsed]
      exact .inr (.inr (.inl ⟨awake, idle, rfl, rfl⟩))
    · next left =>
      rw [if_neg left]
      exact .inr (.inr (.inr ⟨awake, by simp [idle], rfl, rfl⟩))
  | leaving =>
    by_cases mutes : faultThresholdCount ≤ faultyCount s.takeVerdict.station.window
    · have : t = State.leaveEnds (State.silentReleaseAll s.takeVerdict) := by
        simp only [t, h, State.stationBoundary, if_pos mutes]
      rw [this, silentReleaseAll_eq]
      exact .inl ⟨⟨h, rfl⟩, rfl, rfl⟩
    · have : t = s.takeVerdict.leaveIfDone := by simp only [t, h, State.stationBoundary, if_neg mutes]
      rw [this]
      unfold State.leaveIfDone
      split
      · exact .inl ⟨⟨h, rfl⟩, rfl, rfl⟩
      · exact .inr (.inr (.inr (stays rfl rfl rfl)))

/-- R131: with no attempt current TXD is recessive. -/
theorem line_of_idle {s : State} (ha : AttemptsAgree s) (h : s.line.transmit = .idle) :
    s.line = { s.line with transmit := .idle, txd := .recessive } := by
  have txd : s.line.txd = .recessive := by
    cases e : s.line.txd with
    | recessive => rfl
    | dominant =>
      obtain ⟨a, driving⟩ := ha.txd_driven e
      rw [h] at driving; cases driving
  rw [← h, ← txd]

/-- R134: the own break is over, and no other attempt is current while a break is in progress. -/
theorem endBreak_eq {s : State} (ha : AttemptsAgree s) (h : s.timer.breakInProgress = true) :
    State.endBreak s = { s with line := { s.line with transmit := .idle, txd := .recessive } } := by
  unfold State.endBreak
  split
  · rfl
  · next busy =>
    exact congrArg (fun l => { s with line := l }) (line_of_idle ha ((ha.break_alone h).resolve_right busy))

/-- R5, R8, R10, R14, R17: the cycle timer in the new cycle. -/
def openedTimer (kind : BoundaryKind) (own : Nat) (t : Timer) : Timer := { t with
  position := some 0, breakInProgress := false, awaitingRun := false, runStart := none, markOwed := false
  breakStart := none, loneStart := 0, markTimer := .armed (10 * (1335 + own)), lineDominant := false
  cycleCounter := t.cycleCounter + 1
  markSource := if kind = .heard then t.markSource else 0, markSettled := decide (kind = .synthesized) }

/-- R10, R134, R137: the line unit in the new cycle. -/
def openedLine (cut owed : Bool) (own : Nat) (l : Line) : Line := { l with
  dominantRun := 0, segment := .markTail, condition := .opened, assembly := none, txd := .recessive
  rxErrors := errorCount cut l.rxErrors, transmit := if owed = true then .waiting (.mark own) else .idle }

theorem handMark_eq (s : State) : State.handMark s = { s with
    timer := { s.timer with markOwed := false }
    line := if s.timer.markOwed = true then
      { s.line with transmit := .waiting (.mark s.setup.address), txd := .recessive } else s.line } := by
  unfold State.handMark
  split
  · rfl
  · next free => rw [← Bool.eq_false_iff.mpr free]

section OpenCycle
variable {u w : State} {rx : Option Stretch}
  (h : State.closeSegment none (State.endBreak u) = State.closeSegment rx w) (idle : w.line.transmit = .idle)
  (released : w.line.txd = .recessive)
include h idle released

/-- R5, R10: a heard boundary, at which no segment was left to be cut short. -/
theorem openCycle_heard (quiet : cutShort w rx = false) :
    (State.openCycle .heard u).timer = openedTimer .heard w.setup.address w.timer ∧
    (State.openCycle .heard u).line = openedLine (cutShort w rx) w.timer.markOwed w.setup.address w.line := by
  rw [openCycle_eq h]
  dsimp only
  rw [handMark_eq, cycleOpened, quiet]
  constructor
  · rfl
  · show ite (w.timer.markOwed = true) _ _ = _
    unfold openedLine
    split
    · rfl
    · rw [← idle, ← released]

/-- R14: a synthesized boundary, of a station that owes no mark. -/
theorem openCycle_synthesized (free : w.timer.markOwed = false) :
    (State.openCycle .synthesized u).timer = openedTimer .synthesized w.setup.address w.timer ∧
    (State.openCycle .synthesized u).line = openedLine (cutShort w rx) w.timer.markOwed w.setup.address w.line := by
  rw [openCycle_eq h]
  constructor
  · simp only [cycleOpened, errorTimer]
    split <;> simp [Timer.boundary, openedTimer, free, markExpiryAt, characterTimes]
  · simp only [cycleOpened, openedLine, free]
    rw [← idle, ← released]; rfl

end OpenCycle

theorem noteReception_transmit (rx : Option Stretch) (s : State) :
    (State.noteReception rx s).line.transmit = s.line.transmit := by
  have begins (r : Reception) : (State.beginCharacter r s).line.transmit = s.line.transmit := by
    unfold State.beginCharacter
    split
    · split
      · rfl
      · rw [rxError_eq]
      · rfl
    · rfl
  unfold State.noteReception
  split
  · rfl
  · dsimp only
    split <;> exact begins _

theorem endBreak_idle {s : State} (h : s.line.transmit = .idle) : State.endBreak s = s := by
  rw [State.endBreak, if_neg (by rw [h]; nofun)]

/-- R139: a reception that is noted before the end of the segment is the one that its end shows. -/
theorem closeSegment_noteReception (rx : Option Stretch) (s : State) :
    State.closeSegment none (State.noteReception rx s) = State.closeSegment rx s := rfl

/-- R130, R134: no reception and no segment with a break in progress. -/
theorem cutShort_outside {s : State} (h : s.line.segment = .outside) (rx : Option Stretch) : cutShort s rx = false := by
  simp [cutShort, h]

/-- R5, R10, R14: the new cycle, by whatever command the boundary comes. -/
theorem openCycle_taken {s : State} {kind : BoundaryKind} {c : Instr} (ha : AttemptsAgree s)
    (h : TakesBoundary s kind c) :
    (State.openCycle kind (boundaryState s c)).timer = openedTimer kind s.setup.address s.timer ∧
    (State.openCycle kind (boundaryState s c)).line =
      openedLine (cutShort s (boundaryReception c)) s.timer.markOwed s.setup.address s.line := by
  obtain ⟨due, brings⟩ := h
  cases kind with
  | heard =>
    have names : NamesBoundary c := by
      rcases brings_names brings with names | ⟨run, rx, rfl⟩
      · exact names
      · exact nomatch brings.1
    have outside := ha.break_closed due.2
    have here := boundaryReception_named names
    rw [boundaryState_named s names, here]
    exact openCycle_heard (w := { s with line := { s.line with transmit := .idle, txd := .recessive } })
      (congrArg (State.closeSegment none) (endBreak_eq ha due.2)) rfl rfl (cutShort_outside (by exact outside) none)
  | synthesized =>
    obtain ⟨running, quiet, armed, muted⟩ := due
    have still : s.mayDrive = false := by simp [State.mayDrive, muted]
    have idle : s.line.transmit = .idle := by
      by_contra busy
      exact absurd (ha.driving_allowed busy) (by simp [still])
    have free : s.timer.markOwed = false := by
      by_contra owed
      exact absurd (ha.owed_allowed (by simpa using owed)) (by simp [still])
    have released : s.line.txd = .recessive := congrArg Line.txd (line_of_idle ha idle)
    rcases brings_names brings with names | ⟨run, rx, rfl⟩
    · have here := boundaryReception_named names
      rw [boundaryState_named s names, here]
      exact openCycle_synthesized (congrArg (State.closeSegment none) (endBreak_idle idle)) idle released free
    · have expired : (State.expire run s).line.transmit = .idle := by rw [expire_eq]; exact idle
      have closes : State.closeSegment none (State.endBreak (State.noteReception rx (State.expire run s))) =
          State.closeSegment rx (State.expire run s) := by
        rw [endBreak_idle ((noteReception_transmit rx _).trans expired), closeSegment_noteReception]
      show (State.openCycle .synthesized (State.noteReception rx (State.expire run s))).timer = _ ∧
        (State.openCycle .synthesized (State.noteReception rx (State.expire run s))).line = _
      rw [expire_eq] at closes ⊢
      have opened := openCycle_synthesized closes (by exact idle) released free
      exact opened

theorem boundaryState_view (s : State) (c : Instr) : rangeView (boundaryState s c) = rangeView s := by
  cases c with
  | markTimerExpiry run rx => exact (rangeView_noteReception _ rx).trans (rangeView_expire s run)
  | _ => rfl

/-- R155: station control takes the boundary in the state that it had. -/
theorem beforeStation_state (s : State) (kind : BoundaryKind) (c : Instr) :
    (beforeStation kind (boundaryState s c)).station.state = s.station.state := by
  rw [beforeStation_station, state_of_view (rangeView_openCycle _ kind), state_of_view (boundaryState_view s c)]

/-- Settles O30: the new cycle is opened, and station control stops it again or ends the attempt. -/
theorem boundaryOpensCycle : Obligations.BoundaryOpensCycle := by
  intro s kind c ha takes
  refine ⟨_, exec_boundary takes, ?_⟩
  obtain ⟨timer, line⟩ := openCycle_taken ha takes
  have moved := stationBoundary_timer_line kind (beforeStation kind (boundaryState s c))
  have taken := beforeStation_state s kind c
  have drives : (beforeStation kind (boundaryState s c)).mayDrive = s.mayDrive := by simp only [State.mayDrive, taken]
  rw [boundary_eq, state_of_view (boundaryState_view s c)]
  simp only [Leaves, taken, drives, beforeStation_timer, beforeStation_line, timer, line] at moved
  generalize State.stationBoundary kind s.station.state (beforeStation kind (boundaryState s c)) = t at moved ⊢
  have owes (h : s.mayDrive = false) : s.timer.markOwed = false := by
    by_contra owed
    exact absurd (ha.owed_allowed (by simpa using owed)) (by simp [h])
  rcases moved with ⟨leaves, ht, hl⟩ | ⟨stays, still, ht, hl⟩ | ⟨stays, still, ht, hl⟩ | ⟨stays, keeps, ht, hl⟩
  · refine ⟨fun h => absurd leaves h, fun _ => ?_⟩
    have heard : kind = .heard := by
      cases kind with
      | heard => rfl
      | synthesized => exact nomatch leaves.1.symm.trans takes.1.2.2.2
    subst heard
    have quiet := cutShort_outside (ha.break_closed takes.1.2) (boundaryReception c)
    rw [State.changing_timer, State.changing_line, ht, hl, quiet]
    exact ⟨rfl, rfl⟩
  · refine ⟨fun _ => ?_, fun h => absurd h stays⟩
    rw [State.changing_timer, State.changing_line, ht, hl]
    refine ⟨rfl, ?_⟩
    rw [if_neg (fun h => Bool.false_ne_true (still.symm.trans h.2))]
    rfl
  · refine ⟨fun _ => ?_, fun h => absurd h stays⟩
    rw [State.changing_timer, State.changing_line, ht, hl, owes still]
    refine ⟨rfl, ?_⟩
    rw [if_neg (fun h => nomatch h.1)]
    rfl
  · refine ⟨fun _ => ?_, fun h => absurd h stays⟩
    rw [State.changing_timer, State.changing_line, ht, hl]
    refine ⟨rfl, ?_⟩
    cases owed : s.timer.markOwed with
    | false => rw [if_neg (fun h => nomatch h.1)]; rfl
    | true => rw [if_pos ⟨rfl, keeps (ha.owed_allowed owed)⟩]; rfl

end Sys2Proof.Proofs
end

section
/-! SUPPORT. The end of a dominant run short of a break, and the recognition of a break. -/

namespace Sys2Proof.Proofs

open Sys2Proof Sys2Proof.Machine Sys2Proof.Safety

/-! ### Short runs -/

/-- R12, R16: the position after a run, of `run` bit times, on which the cycle timer waited or did not wait. -/
def runEnd (waited : Prop) [Decidable waited] (run : Nat) (t : Timer) : Option Nat :=
  match t.runStart with
  | some start => if waited then t.position.map (max (start + run)) else t.position
  | none => t.position

/-- R12, R16: the cycle timer after it. -/
def armedTimer (waited : Prop) [Decidable waited] (run own : Nat) (t : Timer) : Timer := { t with
  awaitingRun := false, position := runEnd waited run t, runStart := if waited then none else t.runStart
  markTimer := if t.awaitingRun = false then t.markTimer
    else match runEnd waited run t with
      | some p => .armed (p + 10 * (4 + own))
      | none => .armedCount (4 + own) }

theorem runEnd_unwaited {waited : Prop} [Decidable waited] (h : ¬ waited) (run : Nat) (t : Timer) :
    runEnd waited run t = t.position := by
  unfold runEnd
  split
  · exact if_neg h
  · rfl

/-- R16: a lone start waits for the run. -/
theorem loneStartWaits_iff (s : State) :
    s.loneStartWaits = true ↔ s.station.state = .listening ∧ s.timer.loneStart = 5600 := by
  rw [State.loneStartWaits, Bool.and_eq_true, beq_iff_eq, beq_iff_eq]; rfl

/-- R12, R16: the position at the end of the run. -/
theorem runOver_eq (run : Nat) (s : State) {waited : Prop} [Decidable waited]
    (h : waited ↔ s.timer.awaitingRun = true ∨ s.loneStartWaits = true) :
    State.runOver run s = { s with timer := { s.timer with
      position := runEnd waited run s.timer, runStart := if waited then none else s.timer.runStart } } := by
  unfold State.runOver
  by_cases hw : waited
  · rw [if_pos (by simpa using h.mp hw), if_pos hw]
    cases start : s.timer.runStart <;> simp only [State.countFrom, runEnd, start, if_pos hw]
  · rw [if_neg (by simpa using fun e => hw (h.mpr e)), if_neg hw, runEnd_unwaited hw]

/-- R12: the mark timer at the end of a run. -/
theorem runSettled_eq (s : State) : State.runSettled s = { s with timer := { s.timer with
    awaitingRun := false
    markTimer := if s.timer.awaitingRun = false then s.timer.markTimer
      else match s.timer.position with
        | some p => .armed (p + 10 * (4 + s.setup.address))
        | none => .armedCount (4 + s.setup.address) } } := by
  unfold State.runSettled
  split
  · next awaiting =>
    cases position : s.timer.position <;> simp [rearm_eq, awaiting, position]
  · next free =>
    rw [Bool.not_eq_true] at free
    rw [if_pos free, ← free]

theorem runSettled_runOver (run : Nat) (s : State) {waited : Prop} [Decidable waited]
    (h : waited ↔ s.timer.awaitingRun = true ∨ s.loneStartWaits = true) :
    State.runSettled (State.runOver run s) =
      { s with timer := armedTimer waited run s.setup.address s.timer } := by
  rw [runOver_eq run s h, runSettled_eq]
  rfl

/-- R130, R142: a run that is a FRAMING error, in a segment where it can be one, is counted. -/
theorem framing_eq {s : State} (hr : s.line.receiver = true) (run : Nat) (stopBit : Bool) :
    (if framingRun run stopBit then State.rxError s else s) = { s with
      timer := errorTimer (framingCounts s run stopBit) s
      latch := errorLatch (framingCounts s run stopBit) s.latch
      line := { s.line with
        rxErrors := errorCount (framingCounts s run stopBit) s.line.rxErrors
        condition := if framingCounts s run stopBit = true then .discarding else s.line.condition
        assembly := if framingCounts s run stopBit = true then none else s.line.assembly } } := by
  have counts : framingCounts s run stopBit = (framingRun run stopBit && s.countsErrors) := by
    simp [framingCounts, framingRun, State.countsErrors, hr, Bool.and_assoc]
  rw [counts]
  cases framingRun run stopBit
  · rfl
  · exact rxError_eq s

/-- A short run's end where no attempt is SETTLING: the framing error, the timer that waited, and the lone start. -/
theorem shortRunEnd_eq {s : State} {run : Nat} (hr : s.line.receiver = true) (hb : s.timer.breakInProgress = false)
    (hl : 1 ≤ run) (hh : run < 12) (hs : State.settle s = s) (stopBit : Bool) {waited : Prop} [Decidable waited]
    (hw : waited ↔ s.timer.awaitingRun = true ∨ s.loneStartWaits = true) :
    State.shortRunEnd run stopBit s = State.loneStartSettled { s with
      timer := armedTimer waited run s.setup.address (errorTimer (framingCounts s run stopBit) s)
      latch := errorLatch (framingCounts s run stopBit) s.latch
      line := { s.line with
        dominantRun := 0
        rxErrors := errorCount (framingCounts s run stopBit) s.line.rxErrors
        condition := if framingCounts s run stopBit = true then .discarding else s.line.condition
        assembly := if framingCounts s run stopBit = true then none else s.line.assembly } } := by
  have same : (errorTimer (framingCounts s run stopBit) s).awaitingRun = s.timer.awaitingRun ∧
      (errorTimer (framingCounts s run stopBit) s).loneStart = s.timer.loneStart := by
    unfold errorTimer; split <;> exact ⟨rfl, rfl⟩
  simp only [State.shortRunEnd, hs]
  rw [if_pos (by simp [hr, hb, hl, hh]), framing_eq hr, runSettled_runOver (waited := waited)]
  · rfl
  · simp only [State.loneStartWaits, State.atRun] at hw ⊢
    rw [same.1, same.2]; exact hw

/-- R16: the lone start at the end of the run on which it waited. -/
theorem loneStartSettled_waits {s : State} (h : s.station.state = .listening ∧ s.timer.loneStart = 5600)
    (idle : s.line.transmit = .idle) : State.loneStartSettled s = { s with
      station := { s.station with state := .active, startedTrunk := true }
      timer := { s.timer with loneStart := 0, markOwed := true, breakStart := s.timer.position }
      line := { s.line with transmit := .driving .brk, txd := .dominant }
      latch := s.latch.causes Flag.joined.only } := by
  rw [State.loneStartSettled, if_pos ((loneStartWaits_iff s).mpr h), loneStartReport_idle idle]

theorem loneStartSettled_unwaited {s : State} (h : ¬ (s.station.state = .listening ∧ s.timer.loneStart = 5600)) :
    State.loneStartSettled s = s := by
  rw [State.loneStartSettled, if_neg (fun waits => h ((loneStartWaits_iff s).mp waits))]

/-- Settles O38: by whether the lone start waited for the run. -/
theorem shortRunEnds : Obligations.ShortRunEnds := by
  intro s run stopBit ha hr hb hl hh unsettled err lone settled waited ended armed
  have hw : waited ↔ s.timer.awaitingRun = true ∨ s.loneStartWaits = true := or_congr_right (loneStartWaits_iff s).symm
  have ran := shortRunEnd_eq hr hb hl hh (settle_eq_self unsettled) stopBit hw
  have timer : armedTimer waited run s.setup.address (errorTimer err s) = armed := by
    simp only [armed, armedTimer, ended, runEnd, settled, errorTimer]
    split <;> rfl
  have count : armed.loneStart = s.timer.loneStart := by
    simp only [armed, settled]
    split <;> rfl
  rw [timer] at ran
  refine ⟨_, congrArg Host.Outcome.next ran, ?_⟩
  by_cases hlone : lone
  · have idle : s.line.transmit = .idle := by
      by_contra busy
      have drives := (mayDrive_iff s).mp (ha.driving_allowed busy)
      simp [hlone.1] at drives
    rw [loneStartSettled_waits (by exact ⟨hlone.1, count.trans hlone.2⟩) (by exact idle)]
    simp only [if_pos hlone]
    refine ⟨rfl, ?_⟩
    have framed : Latches s { s with latch := errorLatch err s.latch } (errorFlag err) := latches_error rfl
    refine latches_congr (latches_trans framed (latches_one (f := .joined) rfl)) fun f => ?_
    simp [hlone, oneFlag]
  · rw [loneStartSettled_unwaited (by exact fun h => hlone ⟨h.1, count.symm.trans h.2⟩)]
    simp only [if_neg hlone]
    refine ⟨rfl, ?_⟩
    refine latches_congr (latches_error rfl) fun f => ?_
    simp [hlone, err]

/-! ### Breaks -/

/-- R6, R133: a break cuts the current attempt, but not the station's own break (R134). -/
theorem cut_eq (s : State) :
    State.cut s = (cutAttempt s.line.transmit).elim s fun a => State.attemptReturns a s := by
  unfold State.cut
  cases s.line.transmit with
  | driving a => cases a <;> rfl
  | idle => rfl
  | waiting a => rfl
  | settling a p => rfl

/-- R64, R95: what the cut leaves of the state. -/
theorem cut_frame (s : State) : State.cut s = { s with
    line := { s.line with transmit := (State.cut s).line.transmit, txd := (State.cut s).line.txd }
    ann := (State.cut s).ann, streams := (State.cut s).streams, freeBuffers := (State.cut s).freeBuffers } := by
  rw [cut_eq]
  cases cutAttempt s.line.transmit with
  | none => rfl
  | some a =>
    simp only [Option.elim]
    rw [(attemptReturns_spec a s).2]

/-- R130, R139: the break overruns a frame whose char0 is complete. -/
theorem breakTruncates_iff (rx : Option Stretch) (s : State) : s.breakTruncates rx = true ↔
    ∃ r : Reception, r.chars ≠ [] ∧
      (begun rx = some r ∨ (begun rx = none ∧ s.line.condition = .receiving ∧ s.line.assembly = some r)) := by
  unfold State.breakTruncates
  cases hb : begun rx with
  | some r => simp
  | none =>
    by_cases hc : s.line.condition = .receiving
    · cases s.line.assembly <;> simp [hc]
    · simp [hc]

theorem overrun_iff (rx : Option Stretch) (s : State) :
    (s.countsErrors && s.breakTruncates rx) = true ↔ Overrun s rx := by
  rw [Bool.and_eq_true, countsErrors_iff, breakTruncates_iff]
  simp only [Overrun, and_assoc]

/-- R139: the end of the segment at the recognition of a break. -/
theorem breakSegment_eq (rx : Option Stretch) (s : State) : State.breakSegment rx s = { s with
    timer := errorTimer (s.countsErrors && s.breakTruncates rx) s
    latch := errorLatch (s.countsErrors && s.breakTruncates rx) s.latch
    line := { s.line with
      segment := .outside, condition := .opened, assembly := none
      rxErrors := errorCount (s.countsErrors && s.breakTruncates rx) s.line.rxErrors } } := by
  rw [State.breakSegment]
  cases s.breakTruncates rx
  · simp [State.openSegment, errorTimer, errorLatch, errorCount]
  · rw [if_pos rfl, rxError_eq, Bool.and_true]; rfl

/-- R7: the mark source at the recognition of a break, after a receive error or none. -/
theorem settleMark_eq (s : State) : State.settleMark s = { s with timer := { s.timer with
    markSettled := true, markSource := if s.timer.markSettled = true then s.timer.markSource else 0 } } := by
  unfold State.settleMark
  split
  · next settled => rw [← settled]
  · rfl

/-- R7: the mark source of a cycle that is settled after a receive error, or none. -/
theorem settled_errorTimer (e : Bool) (s : State) : { errorTimer e s with
      markSettled := true
      markSource := if (errorTimer e s).markSettled = true then (errorTimer e s).markSource else 0 } =
    { s.timer with
      markSettled := true
      markSource := if s.timer.markSettled = true ∧ ¬ (e = true ∧ s.line.segment = .markTail)
        then s.timer.markSource else 0 } := by
  unfold errorTimer
  split
  · next error => simp [error]
  · next clean => simp only [clean, not_false_iff, and_true]

/-- R3, R12, R15: the cycle timer from the recognition of a break on. -/
def atBreak (t : Timer) : Timer := { t with
  breakInProgress := true, markTimer := .disarmed, awaitingRun := false, runStart := none, loneStart := 0 }

/-- R3, R7, R138: a recognised break, in the state that the cut has left. -/
theorem recogniseBreak_eq {s : State} (hr : s.timer.running = true) (hb : s.timer.breakInProgress = false)
    (rx : Option Stretch) : State.recogniseBreak rx s = { State.cut s with
      timer := atBreak { s.timer with
        markSettled := true
        markSource := if s.timer.markSettled = true ∧
            ¬ ((s.countsErrors && s.breakTruncates rx) = true ∧ s.line.segment = .markTail)
          then s.timer.markSource else 0 }
      latch := errorLatch (s.countsErrors && s.breakTruncates rx) s.latch
      line := { (State.cut s).line with
        dominantRun := 12, segment := .outside, condition := .opened, assembly := none, lostNote := false
        rxErrors := errorCount (s.countsErrors && s.breakTruncates rx) s.line.rxErrors } } := by
  have counts : (State.cut s).countsErrors = s.countsErrors := by rw [cut_frame]; rfl
  have truncates : (State.cut s).breakTruncates rx = s.breakTruncates rx := by rw [cut_frame]; rfl
  have timer : (State.cut s).timer = s.timer := by rw [cut_frame]
  have segment : (State.cut s).line.segment = s.line.segment := by rw [cut_frame]
  have latch : (State.cut s).latch = s.latch := by rw [cut_frame]
  have errors : (State.cut s).line.rxErrors = s.line.rxErrors := by rw [cut_frame]
  have source := settled_errorTimer (s.countsErrors && s.breakTruncates rx) (State.cut s)
  rw [timer, segment] at source
  rw [State.recogniseBreak, if_pos (by simp [hr, hb]), settleMark_eq, breakSegment_eq, counts, truncates]
  rw [← source, latch, errors]
  rfl

/-- Settles O29: the cut, then the end of the segment, then the cycle timer. -/
theorem breakRecognition : Obligations.BreakRecognition := by
  refine ⟨fun s rx running quiet => ?_, fun s running breaking => ?_⟩
  · have ran : exec (.breakRecognised rx) s = .next (State.recogniseBreak rx s) := rfl
    refine ⟨_, s.countsErrors && s.breakTruncates rx, ran, overrun_iff rx s, ?_⟩
    rw [recogniseBreak_eq running quiet rx]
    have frame := cut_frame s
    refine ⟨?_, latches_error rfl, fun a ha => ?_, fun none => ?_⟩
    · rw [frame]; rfl
    · have cut : State.cut s = State.attemptReturns a s := by rw [cut_eq, ha]; rfl
      obtain ⟨fails, -⟩ := attemptReturns_spec a s
      rw [← cut] at fails
      exact attemptFails_congr fails rfl fails.line rfl
    · have cut : State.cut s = s := by rw [cut_eq, none]; rfl
      rw [cut]
      exact ⟨rfl, rfl, rfl, rfl, rfl⟩
  · have ran : exec .lineDominant s = .next s.lineHeld := rfl
    rw [ran, State.lineHeld, if_pos (by simp [running, breaking])]

end Sys2Proof.Proofs
end

section
/-! SUPPORT. The state after pin reset, and the invariants that every step keeps there. -/

namespace Sys2Proof.Proofs

open Sys2Proof Sys2Proof.Machine Sys2Proof.Safety

/-! ### The parts of the state after reset -/

@[simp] theorem reset_entry (k : Slot) : State.reset.map[k] = Entry.reset := by simp [State.reset, State.afterReset]

@[simp] theorem reset_stream (n : StreamNo) : State.reset.streams[n] = Stream.reset 8 := by
  simp [State.reset, State.afterReset, Setup.reset]

@[simp] theorem reset_tap (t : TapNo) : State.reset.taps[t] = Tap.reset := by simp [State.reset, State.afterReset]

/-! ### The invariants at reset -/

theorem reset_attnFollows : AttnFollows State.reset := by unfold AttnFollows; decide

theorem reset_attemptsAgree : AttemptsAgree State.reset where
  driving_allowed h := absurd rfl h
  owed_allowed := nofun
  txd_driven := nofun
  break_alone := nofun
  break_closed := nofun
  in_flight n := by rw [reset_stream]; rfl
  offer_flies := rfl

theorem reset_restsQuietly : RestsQuietly State.reset := fun _ =>
  ⟨rfl, rfl, rfl, reset_entry, fun n => by rw [reset_stream]; exact ⟨rfl, rfl⟩, rfl⟩

theorem reset_releasesCover : ReleasesCover State.reset where
  closed_empty n _ := by rw [reset_stream]; exact ⟨rfl, rfl⟩
  claim_open := nofun
  record_covers := nofun
  flight_covers := nofun
  records_differ := List.nodup_nil

theorem reset_listsMirrorMap : ListsMirrorMap State.reset := fun n k => by
  rw [reset_stream, reset_entry]
  exact ⟨SlotSet.has_zero k, SlotSet.has_zero k⟩

theorem reset_buffersAddUp : BuffersAddUp State.reset := by
  have streams : State.reset.sumStreams Stream.buffers = 0 := by
    simp only [State.sumStreams, reset_stream]; rfl
  have taps : State.reset.sumTaps (fun t => t.queue.length) = 0 := by
    simp only [State.sumTaps, reset_tap]; rfl
  rw [BuffersAddUp, bufferTotal, streams, taps]; rfl

theorem reset_queuesFit : QueuesFit State.reset :=
  ⟨fun n => by rw [reset_stream]; decide, fun t => by rw [reset_tap]; decide⟩

theorem reset_tapsDiffer : TapsDiffer State.reset := fun t _ _ live => by
  rw [reset_tap] at live
  exact absurd rfl live

theorem reset_inRange : InRange State.reset :=
  resetBlocks_inRange ⟨by decide, by decide, by decide, by decide⟩ State.reset

/-- No slot is held, pending or claimed. -/
theorem reset_spoken (n : StreamNo) : spoken State.reset n = 0 := by
  rw [spoken, reset_stream]; rfl

theorem reset_streamsInRange : StreamsInRange State.reset where
  reload := ⟨by decide, by decide⟩
  wanted n := by rw [reset_stream]; decide
  lists n := by rw [reset_spoken]; exact Nat.zero_le _
  total := by simp only [reset_spoken]; decide
  attempts n := by rw [reset_stream]; exact le_rfl
  backoff n := by rw [reset_stream]; decide
  claiming := nofun
  stall n := by rw [reset_stream]; decide
  closing n := by rw [reset_stream]; decide
  objects_differ := List.nodup_nil

/-- Settles O27: the values of each block, and the invariants one by one. -/
theorem resetState : Obligations.ResetState := by
  obtain ⟨station, entries⟩ := (inRange_iff _).mp reset_inRange
  have unset (f : Machine.Flag) : flagSet State.reset f = false ∧ flagMarked State.reset f = false :=
    ⟨hasFlag_zero f, hasFlag_zero f⟩
  exact ⟨rfl, rfl, rfl, rfl, rfl, rfl, rfl, rfl, rfl, rfl, rfl, rfl, rfl, rfl, rfl, rfl, rfl, rfl, rfl, rfl, rfl, rfl, rfl,
    rfl, rfl, rfl, rfl, reset_entry, rfl, rfl, reset_stream, reset_tap, rfl, unset, rfl, rfl, rfl, rfl, rfl, reset_attnFollows,
    ⟨reset_attemptsAgree, reset_restsQuietly, reset_releasesCover, reset_listsMirrorMap⟩, reset_buffersAddUp,
    reset_queuesFit, reset_tapsDiffer, station, entries, reset_streamsInRange⟩

end Sys2Proof.Proofs
end

section
/-! SUPPORT. The slot map, entry by entry: what each event makes of an entry, and whose entry it then is. -/

namespace Sys2Proof.Proofs

open Sys2Proof Sys2Proof.Machine Sys2Proof.Safety

/-! ### Entries after an event -/

/-- One element of a vector replaced. -/
theorem vector_set_get {α : Type} {size : Nat} (v : Vector α size) (i j : Fin size) (a : α) :
    (v.set i a)[j] = if j = i then a else v[j] := by
  simp [Vector.getElem_set, Fin.ext_iff, eq_comm]

theorem updateStates_get (m : SlotMap) (f : Slot → EntryState → EntryState) (k : Slot) :
    (m.updateStates f)[k] = { m[k] with state := f k m[k].state } := by
  simp [SlotMap.updateStates, SlotMap.update]

theorem isFree_iff (e : EntryState) : e.isFree = true ↔ e = .free := by cases e <;> simp [EntryState.isFree]

/-- R25 to R27: ageing, in the words of the statements. -/
theorem age_eq (leaseLimit : Nat) (e : Entry) : e.age leaseLimit = agedState leaseLimit e := by
  unfold Entry.age agedState
  cases e.state with
  | free => rfl
  | pending o n c d => simp only [Nat.sub_eq_zero_iff_le]
  | held o n silent d => cases e.heard <;> cases e.reached <;> rfl
  | quarantine c => simp only [Nat.sub_eq_zero_iff_le]

theorem boundary_get (m : SlotMap) (leaseLimit : Nat) (k : Slot) :
    (m.boundary leaseLimit)[k] = { state := agedState leaseLimit m[k], heard := false, reached := false } := by
  simp [SlotMap.boundary, SlotMap.update, age_eq]

/-- R34, R36. -/
theorem claim_get (m : SlotMap) (sender : Nat) (n : StreamNo) (set : SlotSet) (k : Slot) :
    (m.claim sender n set)[k] = if SlotSet.has set k = true ∧ m[k].state = .free
      then { m[k] with state := .pending sender n 2 false } else m[k] := by
  simp only [SlotMap.claim, updateStates_get, Bool.and_eq_true, isFree_iff]
  split <;> rfl

theorem released_eq (sender : Nat) (e : EntryState) :
    e.released sender = if e.publisher.map Prod.fst = some sender then .quarantine 2 else e := by
  cases e <;> simp [EntryState.released, EntryState.publisher]

/-- R37, R38. -/
theorem release_get (m : SlotMap) (sender : Nat) (set : SlotSet) (k : Slot) :
    (m.release sender set)[k] = if SlotSet.has set k = true ∧ m[k].state.publisher.map Prod.fst = some sender
      then { m[k] with state := .quarantine 2 } else m[k] := by
  simp only [SlotMap.release, updateStates_get, released_eq]
  by_cases named : SlotSet.has set k = true
  · simp only [named, if_true, true_and]; split <;> rfl
  · rw [if_neg named, if_neg (fun h => named h.1)]

/-- R42: detaching, in the words of the statements. -/
theorem detach_eq (own : Nat) (p : StreamNo → Bool) (e : EntryState) :
    e.detach own p = if ownedBy own p e = true then detachedState e else e := by
  cases e with
  | free => rfl
  | quarantine c => rfl
  | pending o n c d => cases h : (o == own && p n) <;> simp [EntryState.detach, ownedBy, EntryState.publisher, detachedState, h]
  | held o n silent d => cases h : (o == own && p n) <;> simp [EntryState.detach, ownedBy, EntryState.publisher, detachedState, h]

theorem detach_get (m : SlotMap) (own : Nat) (p : StreamNo → Bool) (k : Slot) :
    (m.detach own p)[k] = { m[k] with state := if ownedBy own p m[k].state = true then detachedState m[k].state
      else m[k].state } := by
  simp only [SlotMap.detach, updateStates_get, detach_eq]

/-! ### Publishers (R41) -/

/-- R25: an entry that lapses loses its publisher at a boundary, and every other entry keeps it. -/
theorem publisher_age (leaseLimit : Nat) (e : Entry) :
    (agedState leaseLimit e).publisher = if e.lapses leaseLimit = true then none else e.state.publisher := by
  unfold agedState Entry.lapses
  cases e.state with
  | free => rfl
  | pending o n c d => dsimp only; split <;> rfl
  | held o n silent d =>
    cases e.heard <;> cases e.reached <;> by_cases h : silent + 1 = leaseLimit <;> simp [h, EntryState.publisher]
  | quarantine c => dsimp only; split <;> rfl

/-- R41: an event that takes no entry from its publisher leaves every tap as it is. -/
theorem goesStale_kept {before after : SlotMap}
    (h : ∀ k : Slot, before[k].state.publisher ≠ none → after[k].state.publisher = before[k].state.publisher) (tap : Tap) :
    tap.goesStale before after = false := by
  rw [Bool.eq_false_iff, ne_eq, goesStale_iff]
  rintro ⟨-, ⟨k, had, lost⟩, -⟩
  exact lost ((h k (by rw [had]; nofun)).trans had)

theorem publisher_claim (m : SlotMap) (sender : Nat) (n : StreamNo) (set : SlotSet) (k : Slot)
    (h : m[k].state.publisher ≠ none) : (m.claim sender n set)[k].state.publisher = m[k].state.publisher := by
  rw [claim_get, if_neg]
  rintro ⟨-, free⟩
  exact h (by rw [free]; rfl)

/-! ### The map with its reports -/

/-- R41, R114: the causes of an event in the map. -/
theorem latches_changeMap (f : SlotMap → SlotMap) (s : State) : Latches s (State.changeMap f s)
    (fun g => match g with | .stale u => s.taps[u].goesStale s.map (f s.map) | _ => false) := by
  refine latches_congr (latches_of_latch (latches_causes (u := s) rfl _) (by rw [changeMap_eq]; rfl)) (hasFlag_stale _)

theorem changeMap_tap (f : SlotMap → SlotMap) (s : State) (u : TapNo) : (State.changeMap f s).taps[u] =
    if s.taps[u].goesStale s.map (f s.map) = true then { s.taps[u] with state := .stale } else s.taps[u] := by
  simp [changeMap_eq]

/-- R34, R36: a CLAIM takes no entry from its publisher. -/
theorem changeMap_claim (sender : Nat) (n : StreamNo) (set : SlotSet) (s : State) :
    ∃ l, State.changeMap (fun m => m.claim sender n set) s = { s with map := s.map.claim sender n set, latch := l } ∧
      Latches s (State.changeMap (fun m => m.claim sender n set) s) noFlag := by
  have kept := goesStale_kept (publisher_claim s.map sender n set)
  refine ⟨(State.changeMap (fun m => m.claim sender n set) s).latch, ?_,
    latches_congr (latches_changeMap _ s) fun g => ?_⟩
  · rw [changeMap_eq]; simp [kept]
  · cases g with
    | stale u => exact kept _
    | _ => rfl

end Sys2Proof.Proofs
end

section
/-! SUPPORT. A slot frame in the tap that follows its publisher, and the own slot frame that ends COMPLETE. -/

namespace Sys2Proof.Proofs

open Sys2Proof Sys2Proof.Machine Sys2Proof.Safety

/-! ### One tap -/

theorem latches_when {s t : State} {b : Bool} {f : Flag} (h : t.latch = if b = true then s.latch.causes f.only else s.latch) :
    Latches s t (fun g => b && g == f) := by
  cases b with
  | false => exact latches_none h
  | true => exact latches_one h

/-- R109, R113: the accounting of a frame, in the state. -/
theorem tapAccount_spec (u : TapNo) (f : SlotFrame) (s : State) :
    State.tapAccount u f.seq (nextExpected f) s = { s with
      taps := s.taps.set u (tapAccounted f s.taps[u])
      latch := if tapGap f s.taps[u] = true then s.latch.causes (Flag.loss u).only else s.latch } := by
  have tap : Tap.account f.seq (nextExpected f) s.taps[u] = tapAccounted f s.taps[u] := account_eq f _
  simp only [State.tapAccount, showsGap_eq, State.modifyTap, tap]
  split <;> rfl

/-- R110 to R112: what the queue's part of a DATA frame makes of its tap. -/
def tapQueued (free : Nat) (frame : RxFrame) (tap : Tap) : Tap :=
  if tap.queue.length < 8 then
    if free = 0 then { tap with noBufferDrops := Counter.raise tap.noBufferDrops 1 }
    else { tap with queue := tap.queue ++ [frame] }
  else match tap.policy with
    | .keepOldest => { tap with fullDrops := Counter.raise tap.fullDrops 1 }
    | .keepNewest => { tap with
        fullDrops := Counter.raise tap.fullDrops 1, queue := tap.queue.tail ++ [frame], pullMark := false }

/-- R110: the queue has room and a buffer is granted. -/
def queueTakes (free : Nat) (tap : Tap) : Bool := decide (tap.queue.length < 8) && free != 0

theorem tapQueue_spec (u : TapNo) (frame : RxFrame) (s : State) :
    State.tapQueue u frame s = { s with
      taps := s.taps.set u (tapQueued s.freeBuffers frame s.taps[u])
      freeBuffers := s.freeBuffers - (if queueTakes s.freeBuffers s.taps[u] = true then 1 else 0)
      latch := (State.tapQueue u frame s).latch } ∧
    Latches s (State.tapQueue u frame s) (fun g =>
      (queueTakes s.freeBuffers s.taps[u] && s.taps[u].queue.isEmpty) && g == .data u ||
        !queueTakes s.freeBuffers s.taps[u] && g == .loss u) := by
  unfold State.tapQueue
  dsimp only
  by_cases room : s.taps[u].queue.length < 8
  · by_cases free : s.freeBuffers = 0
    · have takes : queueTakes s.freeBuffers s.taps[u] = false := by simp [queueTakes, free]
      rw [if_pos room, if_pos free, takes]
      refine ⟨?_, latches_congr (latches_one rfl) fun g => by simp [oneFlag]⟩
      simp only [tapQueued, if_pos room, if_pos free]; rfl
    · have takes : queueTakes s.freeBuffers s.taps[u] = true := by simpa [queueTakes, free] using room
      rw [if_pos room, if_neg free, takes]
      cases empty : s.taps[u].queue.isEmpty
      · refine ⟨?_, latches_congr (latches_none rfl) fun g => by simp [noFlag]⟩
        simp only [tapQueued, if_pos room, if_neg free]; rfl
      · refine ⟨?_, latches_congr (latches_one rfl) fun g => by simp [oneFlag]⟩
        simp only [tapQueued, if_pos room, if_neg free]; rfl
  · have takes : queueTakes s.freeBuffers s.taps[u] = false := by simpa [queueTakes] using fun h => absurd h room
    rw [if_neg room, takes]
    refine ⟨?_, latches_congr (latches_one rfl) fun g => by simp [oneFlag]⟩
    simp only [tapQueued, if_neg room, State.modifyTap]
    generalize s.taps[u] = tap
    obtain ⟨_, _, _, policy, _, _, _, _, _, _⟩ := tap
    cases policy <;> rfl

/-! ### The tap that follows a publisher (R108) -/

/-- R108 to R113: the taps, the pool and the latch after a slot frame. -/
structure TapTaken (f : SlotFrame) (s t : State) : Prop where
  whole : t = { s with taps := t.taps, freeBuffers := t.freeBuffers, latch := t.latch }
  taps : ∀ u : TapNo, t.taps[u] =
    if TapFollows s u f.sender f.stream then tapAfter s.freeBuffers f s.taps[u] else s.taps[u]
  granted : ∀ u : TapNo, TapFollows s u f.sender f.stream →
    t.freeBuffers = s.freeBuffers - (if tapTakes s.freeBuffers f s.taps[u] = true then 1 else 0)
  unfollowed : (∀ u : TapNo, ¬ TapFollows s u f.sender f.stream) → t.freeBuffers = s.freeBuffers
  latches : Latches s t (fun g => match g with
    | .data u => decide (TapFollows s u f.sender f.stream) && tapFills s.freeBuffers f s.taps[u]
    | .loss u => decide (TapFollows s u f.sender f.stream) && tapLoses s.freeBuffers f s.taps[u]
    | _ => false)

/-- A frame that one tap takes, and no other follows. -/
theorem tapTaken_of_one {f : SlotFrame} {s t : State} {u : TapNo} (hd : TapsDiffer s)
    (hu : TapFollows s u f.sender f.stream) (ht : t = { s with
      taps := s.taps.set u (tapAfter s.freeBuffers f s.taps[u])
      freeBuffers := s.freeBuffers - (if tapTakes s.freeBuffers f s.taps[u] = true then 1 else 0), latch := t.latch })
    (hl : Latches s t (fun g => (tapFills s.freeBuffers f s.taps[u] && g == .data u) ||
      (tapLoses s.freeBuffers f s.taps[u] && g == .loss u))) : TapTaken f s t := by
  have only (v : TapNo) : TapFollows s v f.sender f.stream ↔ v = u :=
    ⟨fun hv => follows_unique hd hv hu, fun e => e ▸ hu⟩
  refine ⟨by rw [ht], fun v => ?_, fun v hv => ?_, fun none => absurd hu (none u), latches_congr hl fun g => ?_⟩
  · have : t.taps = s.taps.set u (tapAfter s.freeBuffers f s.taps[u]) := by rw [ht]
    rw [this, vector_set_get]
    simp only [only]
    split
    · next e => rw [e]
    · rfl
  · rw [(only v).mp hv, ht]
  · simp only [only]
    cases g with
    | data v => by_cases e : v = u <;> simp [e]
    | loss v => by_cases e : v = u <;> simp [e]
    | _ => simp

theorem tapAfter_keep {f : SlotFrame} (hb : f.body = .keep) (free : Nat) (tap : Tap) :
    tapAfter free f tap = tapAccounted f tap := by simp [tapAfter, hb]

theorem tapAfter_data {f : SlotFrame} {payload : List Byte} (hb : f.body = .data payload) (free : Nat) (tap : Tap) :
    tapAfter free f tap = tapQueued free { seq := f.seq, payload } (tapAccounted f tap) := by
  simp only [tapAfter, hb]; rfl

theorem tapTakes_data {f : SlotFrame} {payload : List Byte} (hb : f.body = .data payload) (free : Nat) (tap : Tap) :
    tapTakes free f tap = queueTakes free (tapAccounted f tap) := by
  simp only [tapTakes, hb]; rfl

theorem tapTakes_keep {f : SlotFrame} (hb : f.body = .keep) (free : Nat) (tap : Tap) : tapTakes free f tap = false := by
  simp only [tapTakes, hb]

/-- R108: a slot frame reaches the tap that follows its publisher, and no other. -/
theorem tapTake_spec {s : State} (hd : TapsDiffer s) (f : SlotFrame) : TapTaken f s (State.tapTake f s) := by
  unfold State.tapTake
  split
  · next none =>
    have unfollowed (u : TapNo) : ¬ TapFollows s u f.sender f.stream := tapFor_eq_none none u
    refine ⟨rfl, fun u => (if_neg (unfollowed u)).symm, fun u hu => absurd hu (unfollowed u), fun _ => rfl,
      latches_congr (latches_none rfl) fun g => ?_⟩
    cases g <;> simp [noFlag, unfollowed]
  · next u found =>
    have hu : TapFollows s u f.sender f.stream := tapFor_eq_some found
    have gap : Latches s (State.tapAccount u f.seq (nextExpected f) s) (fun g => tapGap f s.taps[u] && g == .loss u) :=
      latches_when (by rw [tapAccount_spec])
    split
    · next payload hb =>
      have expects : nextExpected f = f.seq + 1 := by simp only [nextExpected, hb]
      rw [← expects]
      obtain ⟨whole, queued⟩ := tapQueue_spec u { seq := f.seq, payload } (State.tapAccount u f.seq (nextExpected f) s)
      have accounted := tapAccount_spec u f s
      generalize State.tapAccount u f.seq (nextExpected f) s = v at *
      have taps : v.taps[u] = tapAccounted f s.taps[u] := by rw [accounted]; simp
      have free : v.freeBuffers = s.freeBuffers := by rw [accounted]
      rw [taps, free] at whole queued
      rw [← tapTakes_data hb] at queued whole
      refine tapTaken_of_one hd hu ?_ (latches_congr (latches_trans gap queued) fun g => ?_)
      · rw [whole, accounted, ← tapAfter_data hb]
        simp
      · have empty : (tapAccounted f s.taps[u]).queue = s.taps[u].queue := rfl
        simp only [tapFills, tapLoses, hb, empty, Bool.and_or_distrib_right]
        ac_rfl
    · next hb =>
      have expects : nextExpected f = f.seq := by simp only [nextExpected, hb]
      have taken := tapTakes_keep hb s.freeBuffers s.taps[u]
      rw [expects] at gap
      refine tapTaken_of_one hd hu ?_ (latches_congr gap fun g => ?_)
      · have := tapAccount_spec u f s
        rw [expects] at this
        rw [this, tapAfter_keep hb, taken]; rfl
      · simp only [tapFills, tapLoses, taken, hb, Bool.false_and, Bool.false_or, Bool.or_false]

/-! ### An own slot frame that ends COMPLETE -/

theorem hearOwnFrame_eq (k : Slot) (s : State) : State.hearOwnFrame k s = { s with map := s.map.set k { s.map[k] with
    heard := true, state := match s.map[k].state with | .held o n _ d => .held o n 0 d | e => e } } := by
  have : s.map[k].state.heardOwn = match s.map[k].state with | .held o n _ d => .held o n 0 d | e => e := by
    cases s.map[k].state <;> rfl
  simp only [State.hearOwnFrame, SlotMap.hearOwn, this]

/-- R94, R100: the in-flight DATA frame of a stream that ends COMPLETE. -/
theorem dataComplete_spec {n : StreamNo} {s : State} (flies : s.streams[n].inFlight.isSome = true) :
    State.dataComplete n s = { s with
      streams := s.streams.set n s.streams[n].sentOne, freeBuffers := s.freeBuffers + 1
      latch := (State.dataComplete n s).latch } ∧
    Latches s (State.dataComplete n s) (fun g => s.streams[n].queue.isEmpty && g == .drained n) := by
  simp only [State.dataComplete, flies, if_true]
  refine ⟨?_, latches_when ?_⟩
  · split <;> rfl
  · split <;> rfl

theorem drained_beq (m n : StreamNo) : (Flag.drained m == Flag.drained n) = (m == n) := by
  rw [Bool.eq_iff_iff, beq_iff_eq, beq_iff_eq, Flag.drained.injEq]

theorem tapsDiffer_of_taps {s t : State} (hd : TapsDiffer s) (h : t.taps = s.taps) : TapsDiffer t := by
  unfold TapsDiffer; rw [h]; exact hd

theorem countChoice_eq (free : Nat) (s : State) :
    State.countChoice free s = { s with choices := if free = 0 then s.choices + 1 else s.choices } := by
  unfold State.countChoice; split <;> rfl

/-- R94, R108, R110: an own DATA frame in its stream and in the tap that follows it, which finds `free` buffers. -/
structure DataDelivered (f : SlotFrame) (free : Nat) (s t : State) : Prop where
  whole : t = { s with
    streams := s.streams.set f.stream s.streams[f.stream].sentOne
    taps := t.taps, latch := t.latch, freeBuffers := t.freeBuffers }
  taps : ∀ u : TapNo, t.taps[u] = if TapFollows s u f.sender f.stream then tapAfter free f s.taps[u] else s.taps[u]
  granted : ∀ u : TapNo, TapFollows s u f.sender f.stream →
    t.freeBuffers = s.freeBuffers + 1 - (if tapTakes free f s.taps[u] = true then 1 else 0)
  unfollowed : (∀ u : TapNo, ¬ TapFollows s u f.sender f.stream) → t.freeBuffers = s.freeBuffers + 1
  latches : Latches s t (fun g => match g with
    | .drained n => n == f.stream && s.streams[f.stream].queue.isEmpty
    | .data u => decide (TapFollows s u f.sender f.stream) && tapFills free f s.taps[u]
    | .loss u => decide (TapFollows s u f.sender f.stream) && tapLoses free f s.taps[u]
    | _ => false)

/-- R123: the buffer returns first. -/
theorem dataDelivered_returnFirst {s : State} {f : SlotFrame} (hd : TapsDiffer s)
    (flies : s.streams[f.stream].inFlight.isSome = true) :
    DataDelivered f (s.freeBuffers + 1) s (State.tapTake f (State.dataComplete f.stream s)) := by
  obtain ⟨returned, drained⟩ := dataComplete_spec flies
  generalize State.dataComplete f.stream s = v at *
  have taps : v.taps = s.taps := by rw [returned]
  have free : v.freeBuffers = s.freeBuffers + 1 := by rw [returned]
  obtain ⟨whole, each, granted, unfollowed, latches⟩ := tapTake_spec (tapsDiffer_of_taps hd taps) f
  simp only [TapFollows, taps, free] at each granted unfollowed latches
  refine ⟨?_, each, granted, unfollowed, latches_congr (latches_trans drained latches) fun g => ?_⟩
  · rw [whole, returned]
  · cases g <;> simp [Bool.and_comm, TapFollows, drained_beq]

/-- R110: the tap asks first, of a pool without a free buffer. -/
theorem dataDelivered_tapFirst {s : State} {f : SlotFrame} (hd : TapsDiffer s)
    (flies : s.streams[f.stream].inFlight.isSome = true) (none : s.freeBuffers = 0) :
    DataDelivered f 0 s (State.dataComplete f.stream (State.tapTake f s)) := by
  obtain ⟨whole, each, granted, unfollowed, latches⟩ := tapTake_spec hd f
  rw [none] at each granted latches
  generalize State.tapTake f s = v at *
  have streams : v.streams = s.streams := by rw [whole]
  obtain ⟨returned, drained⟩ := dataComplete_spec (s := v) (n := f.stream) (by rw [streams]; exact flies)
  rw [streams] at returned drained
  generalize State.dataComplete f.stream v = t at *
  have taps : t.taps = v.taps := by rw [returned]
  have free : t.freeBuffers = v.freeBuffers + 1 := by rw [returned]
  have taken (u : TapNo) : tapTakes 0 f s.taps[u] = false := by unfold tapTakes; split <;> simp
  refine ⟨?_, fun u => ?_, fun u hu => ?_, fun h => ?_, latches_congr (latches_trans latches drained) fun g => ?_⟩
  · rw [returned, whole]
  · rw [taps]; exact each u
  · rw [free, granted u hu, taken]; simp [none]
  · rw [free, unfollowed h]
  · cases g <;> simp [Bool.and_comm, drained_beq]

/-- R110, R123: with a buffer free the return is taken first, and with none either may be. -/
theorem returnFirst_of_free {s : State} (h : 0 < s.freeBuffers) : s.returnFirst = true := by
  simp [State.returnFirst, h]

/-- R110, R123: the return and the request in the order that the model takes. -/
theorem dataDelivered_ordered {s : State} {f : SlotFrame} (hd : TapsDiffer s)
    (flies : s.streams[f.stream].inFlight.isSome = true) :
    ∃ free, (0 < s.freeBuffers → free = s.freeBuffers + 1) ∧ (s.freeBuffers = 0 → free = 0 ∨ free = 1) ∧
      DataDelivered f free s (if s.returnFirst = true then State.tapTake f (State.dataComplete f.stream s)
        else State.dataComplete f.stream (State.tapTake f s)) := by
  by_cases first : s.returnFirst = true
  · rw [if_pos first]
    exact ⟨_, fun _ => rfl, fun none => .inr (by rw [none]), dataDelivered_returnFirst hd flies⟩
  · have none : s.freeBuffers = 0 := Nat.eq_zero_of_not_pos fun some => first (returnFirst_of_free some)
    rw [if_neg first]
    exact ⟨0, fun some => absurd none some.ne', fun _ => .inl rfl, dataDelivered_tapFirst hd flies none⟩

/-- Settles O46: the entry is heard, and then the stream and the tap have the frame in either order. -/
theorem slotFrameCompletes : Obligations.SlotFrameCompletes := by
  intro s k f hd driving heard follows
  have ran : exec .attemptComplete s = .next (State.frameComplete k f (State.endFrame s.endAttempt)) := by
    show Host.Outcome.next s.attemptComplete = _
    rw [State.attemptComplete, driving]
  have entered : State.hearOwnFrame k (State.endFrame s.endAttempt) =
      { s with line := completedLine s.line, map := s.map.set k heard } := hearOwnFrame_eq k _
  simp only [State.frameComplete, entered] at ran
  refine ⟨fun payload g hb flies => ?_, fun hb => ?_⟩
  · obtain ⟨free, some, none, whole, each, granted, unfollowed, latches⟩ :=
      dataDelivered_ordered (s := { s with line := completedLine s.line, map := s.map.set k heard }) (f := f)
        hd (congrArg Option.isSome flies)
    simp only [hb, countChoice_eq] at ran
    refine ⟨_, free, ran, some, none, ?_, each, granted, unfollowed, latches⟩
    dsimp only at whole ⊢
    rw [whole]; rfl
  · simp only [hb] at ran
    obtain ⟨whole, each, granted, unfollowed, latches⟩ :=
      tapTake_spec (s := { s with line := completedLine s.line, map := s.map.set k heard }) hd f
    refine ⟨_, ran, ?_, fun u => (each u).trans (by rw [tapAfter_keep hb]), latches_congr latches fun g => ?_⟩
    · have pool : (State.tapTake f { s with line := completedLine s.line, map := s.map.set k heard }).freeBuffers =
          s.freeBuffers := by
        by_cases followed : ∃ u : TapNo, follows u
        · obtain ⟨u, hu⟩ := followed
          rw [granted u hu, tapTakes_keep hb]; rfl
        · exact unfollowed (not_exists.mp followed)
      rw [whole, pool]
    · cases g <;> simp [tapFills, tapTakes_keep hb, tapLoses, hb, follows]

end Sys2Proof.Proofs
end

section
/-! SUPPORT. Own announcements that end COMPLETE, in the map, the streams, the queue and the taps. -/

namespace Sys2Proof.Proofs

open Sys2Proof Sys2Proof.Machine Sys2Proof.Safety

/-! ### CHANGE (R98) -/

theorem noteChanges_eq (s t : State) : State.noteChanges s t = { t with latch := (State.noteChanges s t).latch } := rfl

/-- R98: the CHANGE causes of an event, as an observer of the event's end sees them. -/
theorem changeFlags_noteChanges (s t : State) : changeFlags s (State.noteChanges s t) = changeFlags s t := by
  funext f; cases f <;> rfl

/-- An event whose own causes are `p`, with its CHANGE causes. -/
theorem latches_event {s t : State} {p : Flag → Bool} (h : Latches s t p) :
    Latches s (State.noteChanges s t) (fun f => p f || changeFlags s t f) := latches_noteChanges h

/-- Streams that have not changed are the cause of nothing. -/
theorem changeFlags_same {s t : State} (h : t.streams = s.streams) (f : Flag) : changeFlags s t f = false := by
  cases f <;> simp [changeFlags, h]

/-- `Latches` looks at nothing but the latch of the first state. -/
theorem latches_from {s u t : State} {p : Flag → Bool} (h : Latches u t p) (e : u.latch = s.latch) : Latches s t p :=
  latches_congr (latches_trans (latches_none e) h) fun _ => rfl

/-- R135: the current announcement ends COMPLETE. -/
theorem exec_announcementComplete {s : State} {w : WindowNo} {a : Announcement}
    (driving : s.line.transmit = .driving (.announcement w a)) : exec .attemptComplete s = .next (State.noteChanges s
      (State.announcementComplete a { s with line := completedLine s.line })) := by
  show Host.Outcome.next s.attemptComplete = _
  rw [State.attemptComplete, driving]; rfl

/-! ### CLAIM (R36, R59) -/

theorem has_claimable (m : SlotMap) (set : SlotSet) (k : Slot) :
    SlotSet.has (m.claimable set) k = (SlotSet.has set k && m[k].state == .free) := by
  rw [SlotMap.claimable, SlotSet.has_ofPred]
  congr 1
  rw [Bool.eq_iff_iff, isFree_iff, beq_iff_eq]

theorem claimed_eq (made : SlotSet) (reload : Nat) (st : Stream) : st.claimed made reload = { st with
    pending := st.pending ||| made, attempts := reload, stall := 0
    state := if StreamIsOpen st then derivedState st.held st.wanted else st.state } := by
  simp only [Stream.claimed, derive_eq]

/-- R77: a derived state is that of an open stream, and no other state is derived. -/
theorem derived_releasing_iff (st : Stream) (held : SlotSet) (wanted : Nat) :
    (if StreamIsOpen st then derivedState held wanted else st.state) = .releasing ↔ st.state = .releasing := by
  by_cases h : StreamIsOpen st
  · rw [if_pos h]
    have open_ : st.state ≠ .releasing := by rcases h with h | h | h <;> rw [h] <;> nofun
    refine iff_of_false ?_ open_
    unfold derivedState; split_ifs <;> nofun
  · rw [if_neg h]

theorem join_eq (n : StreamNo) (made : SlotSet) : Record.join n made = fun r => match r with
    | .release m set => .release m (if m = n then set ||| made else set)
    | .object k => .object k := by
  funext r
  cases r with
  | object k => rfl
  | release m set => simp only [Record.join]; split <;> rfl

/-- R36, R59, R68: an own CLAIM that ends COMPLETE. -/
theorem claimComplete_spec (n : StreamNo) (set : SlotSet) (s : State) :
    ∃ l, State.claimComplete n set s = { s with
      map := s.map.claim s.own n set, latch := l
      streams := s.streams.set n (s.streams[n].claimed (s.map.claimable set) s.setup.attemptReload)
      ann := { s.ann with queue := if s.streams[n].state ≠ .releasing then s.ann.queue
        else s.ann.queue.map (Record.join n (s.map.claimable set)) } } ∧
      Latches s (State.claimComplete n set s) noFlag := by
  obtain ⟨l, whole, quiet⟩ := changeMap_claim s.own n set s
  have state : (s.streams[n].claimed (s.map.claimable set) s.setup.attemptReload).state = .releasing ↔
      s.streams[n].state = .releasing := by rw [claimed_eq]; exact derived_releasing_iff _ _ _
  rw [whole] at quiet
  refine ⟨l, ?_, latches_of_latch quiet ?_⟩
  · simp only [State.claimComplete, whole, State.modifyStream_same, state]
    by_cases releasing : s.streams[n].state = .releasing
    · rw [if_pos releasing, if_neg (not_not_intro releasing)]; simp only [State.setQueue, State.modifyStream]
    · rw [if_neg releasing, if_pos releasing]; simp only [State.modifyStream]
  · simp only [State.claimComplete, whole]
    split <;> rfl

/-- Settles O47. -/
theorem claimCompletes : Obligations.ClaimCompletes := by
  intro s w a driving claim
  have completes : State.announcementComplete a { s with line := completedLine s.line } =
      State.claimComplete a.stream a.slots (State.setOffer none { s with line := completedLine s.line }) := by
    rw [State.announcementComplete, claim]
  have ran := exec_announcementComplete driving
  rw [completes] at ran
  obtain ⟨l, whole, quiet⟩ := claimComplete_spec a.stream a.slots (State.setOffer none { s with line := completedLine s.line })
  refine ⟨_, s.map.claimable a.slots, ran, has_claimable _ _, ?_, fun k => ?_, ?_⟩
  · rw [noteChanges_eq, whole, claimed_eq, join_eq]
    rfl
  · have map : (State.noteChanges s (State.claimComplete a.stream a.slots
        (State.setOffer none { s with line := completedLine s.line }))).map = s.map.claim s.own a.stream a.slots := by
      rw [State.noteChanges_map, whole]; rfl
    rw [map, claim_get]
    simp only [has_claimable, Bool.and_eq_true, beq_iff_eq]; rfl
  · rw [changeFlags_noteChanges]
    exact latches_event (latches_from quiet rfl)

/-! ### RELEASE (R38, R60, R158) -/

/-- R38, R60: the state that an own RELEASE leaves, before the leave that it may end. -/
def releaseApplied (n : StreamNo) (set : SlotSet) (s : State) : State :=
  State.modifyStream n (Stream.released set) (State.dropRelease n (State.changeMap (fun m => m.release s.own set) s))

theorem releaseComplete_eq (n : StreamNo) (set : SlotSet) (s : State) :
    State.releaseComplete n set s = State.leaveIfDone (releaseApplied n set s) := rfl

theorem dropRelease_queue (n : StreamNo) (q : List Record) :
    (q.filter fun r => !r.isReleaseOf n) = q.filter fun r => (releaseOf r).map Prod.fst != some n := by
  refine List.filter_congr fun r _ => ?_
  cases r with
  | object k => rfl
  | release m set => simp [Record.isReleaseOf, releaseOf, bne]

theorem releaseApplied_spec (n : StreamNo) (set : SlotSet) (s : State) :
    releaseApplied n set s = { s with
      map := s.map.release s.own set, taps := (releaseApplied n set s).taps, latch := (releaseApplied n set s).latch
      streams := s.streams.set n (s.streams[n].released set)
      ann := { s.ann with queue := s.ann.queue.filter fun r => (releaseOf r).map Prod.fst != some n } } ∧
    (∀ u : TapNo, (releaseApplied n set s).taps[u] =
      if s.taps[u].goesStale s.map (s.map.release s.own set) = true then { s.taps[u] with state := .stale }
      else s.taps[u]) ∧
    Latches s (releaseApplied n set s)
      (fun g => match g with | .stale u => s.taps[u].goesStale s.map (s.map.release s.own set) | _ => false) := by
  have taps : (releaseApplied n set s).taps = (State.changeMap (fun m => m.release s.own set) s).taps := rfl
  have latch : (releaseApplied n set s).latch = (State.changeMap (fun m => m.release s.own set) s).latch := rfl
  refine ⟨?_, fun u => ?_, latches_of_latch (latches_changeMap (fun m => m.release s.own set) s) latch⟩
  · rw [← dropRelease_queue]
    simp only [releaseApplied, changeMap_eq, State.dropRelease, State.setQueue, State.modifyStream]
  · rw [taps]; exact changeMap_tap (fun m => m.release s.own set) s u

theorem allClosed_iff (s : State) : s.allClosed = true ↔ ∀ n : StreamNo, s.streams[n].state = .closed := by
  simp [State.allClosed]

/-- R158: the leave that an event completes. -/
theorem latches_leaveIfDone (s : State) : Latches s (State.leaveIfDone s)
    (fun g => decide (s.station.state = .leaving ∧ s.allClosed = true) && g == .left) := by
  refine latches_when ?_
  simp only [State.leaveIfDone, decide_eq_true_eq]
  split <;> rfl

theorem leaveIfDone_done {s : State} (h : s.station.state = .leaving ∧ s.allClosed = true) :
    State.leaveIfDone s = State.leaveEnds s := if_pos h

theorem leaveIfDone_open {s : State} (h : ¬ (s.station.state = .leaving ∧ s.allClosed = true)) :
    State.leaveIfDone s = s := if_neg h

/-- R158: after an own RELEASE the stream is CLOSED, so the leave is complete where every other one is. -/
theorem releaseApplied_allClosed (n : StreamNo) (set : SlotSet) (s : State) :
    (releaseApplied n set s).allClosed = true ↔ ∀ m : StreamNo, m ≠ n → s.streams[m].state = .closed := by
  rw [allClosed_iff]
  have each (m : StreamNo) : (releaseApplied n set s).streams[m].state =
      if m = n then .closed else s.streams[m].state := by
    rw [(releaseApplied_spec n set s).1, vector_set_get]; split <;> rfl
  simp only [each]
  exact forall_congr' fun m => by by_cases e : m = n <;> simp [e]

/-- R160: an entry to OFFLINE depends on the streams and the taps by what their lists and states do not show. -/
theorem entersOffline_of {s u t : State} (h : EntersOffline u t) (station : u.station = s.station)
    (timer : u.timer = s.timer) (setup : u.setup = s.setup) (pins : u.pins = s.pins) (free : u.freeBuffers = s.freeBuffers)
    (streams : ∀ n : StreamNo, u.streams[n] = { s.streams[n] with
      state := u.streams[n].state, held := u.streams[n].held, pending := u.streams[n].pending })
    (taps : ∀ v : TapNo, u.taps[v] = { s.taps[v] with state := u.taps[v].state } ∧
      (u.taps[v].state = .off ↔ s.taps[v].state = .off)) : EntersOffline s t := by
  obtain ⟨h1, h2, h3, h4, h5, h6, h7, h8, h9, h10, h11⟩ := h
  refine ⟨station ▸ h1, timer ▸ h2, h3, h4, h5, h6, fun n => ?_, fun v => ?_, ?_, h10.trans setup, h11.trans pins⟩
  · rw [h7, streams]
  · obtain ⟨tap, off⟩ := taps v
    rw [h8]
    by_cases e : s.taps[v].state = .off
    · rw [if_pos e, if_pos (off.mpr e), tap, off.mpr e, ← e]
    · rw [if_neg e, if_neg (mt off.mp e), tap]
  · have buffers (n : StreamNo) : u.streams[n].buffers = s.streams[n].buffers := by rw [streams n]; rfl
    rw [h9, free]
    simp only [State.sumStreams, buffers]

/-- The latch is no part of it. -/
theorem entersOffline_withLatch {s t : State} (h : EntersOffline s t) (l : EventLatch) :
    EntersOffline s { t with latch := l } := by
  obtain ⟨h1, h2, h3, h4, h5, h6, h7, h8, h9, h10, h11⟩ := h
  exact ⟨h1, h2, h3, h4, h5, h6, h7, h8, h9, h10, h11⟩

theorem stale_tap_off {before after : SlotMap} (tap : Tap) :
    let tap' := if tap.goesStale before after = true then { tap with state := .stale } else tap
    tap' = { tap with state := tap'.state } ∧ (tap'.state = .off ↔ tap.state = .off) := by
  dsimp only
  split
  · next stale =>
    have live := ((goesStale_iff before after tap).mp stale).1
    exact ⟨rfl, by simp [live]⟩
  · exact ⟨rfl, Iff.rfl⟩

/-- Settles O48: the map, the stream and the record, and then the leave that this may end. -/
theorem releaseCompletes : Obligations.ReleaseCompletes := by
  intro s w a driving release
  have completes : State.announcementComplete a { s with line := completedLine s.line } =
      State.leaveIfDone (releaseApplied a.stream a.slots (State.setOffer none { s with line := completedLine s.line })) := by
    rw [State.announcementComplete, release, ← releaseComplete_eq]
  have ran := exec_announcementComplete driving
  rw [completes] at ran
  obtain ⟨whole, taps, stale⟩ := releaseApplied_spec a.stream a.slots (State.setOffer none { s with line := completedLine s.line })
  have closed := releaseApplied_allClosed a.stream a.slots (State.setOffer none { s with line := completedLine s.line })
  generalize releaseApplied a.stream a.slots (State.setOffer none { s with line := completedLine s.line }) = u at *
  have gone (v : TapNo) : s.taps[v].goesStale s.map (s.map.release s.own a.slots) = true ↔
      TapGone s.map (s.map.release s.own a.slots) s.taps[v] := goesStale_iff _ _ _
  have tap (v : TapNo) : u.taps[v] = if s.taps[v].goesStale s.map (s.map.release s.own a.slots) = true
      then { s.taps[v] with state := .stale } else s.taps[v] := taps v
  have stale : Latches s u (fun g => match g with
    | .stale v => s.taps[v].goesStale s.map (s.map.release s.own a.slots) | _ => false) := latches_from stale rfl
  have station : u.station = s.station := by rw [whole]; rfl
  have left : (u.station.state = .leaving ∧ u.allClosed = true) ↔
      s.station.state = .leaving ∧ ∀ n : StreamNo, n ≠ a.stream → s.streams[n].state = .closed := by
    rw [station, closed]; exact Iff.rfl
  refine ⟨_, s.map.release s.own a.slots, ran, release_get _ _ _, fun open_ => ⟨?_, fun v => ?_⟩, fun last => ?_, _,
    latches_event (latches_trans stale (latches_leaveIfDone u)), fun f => ?_⟩
  · rw [leaveIfDone_open (mt left.mp open_), noteChanges_eq, whole]; rfl
  · rw [leaveIfDone_open (mt left.mp open_), State.noteChanges_taps, tap]
    exact ⟨fun h => if_pos ((gone v).mpr h), fun h => if_neg (mt (gone v).mp h)⟩
  · rw [leaveIfDone_done (left.mpr last)]
    have enters : EntersOffline s (State.enterOffline u) := by
      refine entersOffline_of (enterOffline_spec u) station (by rw [whole]; rfl) (by rw [whole]; rfl) (by rw [whole]; rfl)
        (by rw [whole]; rfl) (fun n => ?_) fun v => ?_
      · have each : u.streams[n] = if n = a.stream then s.streams[a.stream].released a.slots else s.streams[n] := by
          rw [whole]; exact vector_set_get _ _ _ _
        rw [each]
        split
        · next e => rw [e]; rfl
        · rfl
      · rw [tap]; exact stale_tap_off s.taps[v]
    exact entersOffline_withLatch enters _
  · cases f with
    | left => simp [changeFlags, left]
    | change n => simp [changeFlags]
    | stale v =>
      simp only [changeFlags, Bool.or_false, reduceCtorEq, beq_eq_decide, decide_false, Bool.and_false]
      exact gone v
    | _ => simp [changeFlags]

end Sys2Proof.Proofs
end

section
/-! SUPPORT. Slot frames and announcements of other stations, in the map, the streams, the queue and the taps. -/

namespace Sys2Proof.Proofs

open Sys2Proof Sys2Proof.Machine Sys2Proof.Safety

/-! ### Delivery -/

/-- R138, R143: a placed announcement in a window reaches the blocks, whole. -/
theorem announcement_delivered {s : State} {offset : Nat} {w : WindowNo} {a : Announcement} (h : Delivers s offset)
    (hw : s.line.segment = .window w) (legal : announcementLegal a = true) (apply : State → State) :
    State.announcementReceived offset a apply s = State.noteChanges s
      (State.deliverAnnouncement a.sender apply { s with line := frameEnded s.line }) := by
  have inWindow : s.inWindow = true := by simp [State.inWindow, hw]
  rw [State.announcementReceived, State.changing, inWindow, legal, receiveWhole_delivers h]

/-- R40: an announcement of another station is applied. -/
theorem announcement_applied {s : State} {offset : Nat} {w : WindowNo} {a : Announcement} (h : Delivers s offset)
    (hw : s.line.segment = .window w) (legal : announcementLegal a = true) (other : a.sender ≠ s.setup.address)
    (apply : State → State) :
    State.announcementReceived offset a apply s = State.noteChanges s (apply { s with line := frameEnded s.line }) := by
  rw [announcement_delivered h hw legal, State.deliverAnnouncement, if_neg (by exact other)]

/-- R40: one with the own address is a CLASH. -/
theorem announcement_clashes {s : State} {offset : Nat} {w : WindowNo} {a : Announcement} (h : Delivers s offset)
    (hw : s.line.segment = .window w) (legal : announcementLegal a = true) (own : a.sender = s.setup.address)
    (apply : State → State) :
    State.announcementReceived offset a apply s = State.noteChanges s (State.clash { s with line := frameEnded s.line }) := by
  rw [announcement_delivered h hw legal, State.deliverAnnouncement, if_pos (by exact own)]

theorem slotFrame_delivered {s : State} {offset : Nat} {k : Slot} {f : SlotFrame} (h : Delivers s offset)
    (hk : s.line.segment = .slot k) (legal : frameLegal f = true) :
    State.slotFrameReceived offset f s =
      State.noteChanges s (State.deliverFrame k f { s with line := frameEnded s.line }) := by
  have inSlot : s.inSlot = some k := by simp [State.inSlot, hk]
  rw [State.slotFrameReceived, inSlot]
  show State.noteChanges s (State.receiveWhole true offset (frameLegal f) (State.deliverFrame k f) s) = _
  rw [legal, receiveWhole_delivers h]

theorem card_only (k : Slot) : SlotSet.card (SlotSet.only k) = 1 := by revert k; decide

/-- R140: the announcements that the statements name are legal. -/
theorem claimOrRelease_legal {kind : AnnouncementKind} (hk : kind ≠ .object) {sender : Nat} (n : StreamNo) {set : SlotSet}
    (low : 1 ≤ sender) (high : sender ≤ 62) (some : 1 ≤ slotCount set) (few : slotCount set ≤ 8) :
    announcementLegal { kind, sender, stream := n, slots := set, aux := 0 } = true := by
  cases kind with
  | object => exact absurd rfl hk
  | claim => simp [announcementLegal, addressFits, setAndAuxLegal, low, high, some, few]
  | release => simp [announcementLegal, addressFits, setAndAuxLegal, low, high, some, few]

theorem object_legal {sender : Nat} (n : StreamNo) (k : Slot) {aux : Nat} (low : 1 ≤ sender) (high : sender ≤ 62)
    (fits : aux ≤ 2) :
    announcementLegal { kind := .object, sender, stream := n, slots := SlotSet.only k, aux } = true := by
  have one : slotCount (SlotSet.only k) = 1 := card_only k
  simp [announcementLegal, addressFits, setAndAuxLegal, low, high, one, fits]

/-! ### CLASH (R32, R40) -/

/-- R159, R160: CLASH is an entry to OFFLINE with its own cause. -/
theorem clash_spec (s : State) :
    EntersOffline s (State.clash s) ∧ Latches s (State.clash s) (oneFlag .clash) := by
  have zeroed (u : State) (hu : u = State.updateStreams (fun _ st => { st with held := 0, pending := 0 })
      (State.detach (fun _ => true) s)) : EntersOffline s (State.enterOffline u) := by
    refine entersOffline_of (enterOffline_spec u) (by simp [hu]) (by simp [hu]) (by simp [hu]) (by simp [hu]) (by simp [hu])
      (fun n => ?_) fun v => ?_
    · simp only [hu, State.updateStreams_get, State.detach_streams]
    · simp only [hu, State.updateStreams_taps, State.detach_taps, true_and]
  exact ⟨entersOffline_withLatch (zeroed _ rfl) _, latches_one rfl⟩

/-- Settles O52: by the kind of frame; the frame's end in the line unit does not show after the entry to OFFLINE. -/
theorem ownAddressClashes : Obligations.OwnAddressClashes := by
  intro s offset c delivers own
  have clashes : exec c s = .next (State.noteChanges s (State.clash { s with line := frameEnded s.line })) := by
    rcases own with ⟨k, f, slot, rfl, legal, sender⟩ |
      ⟨w, n, set, window, low, high, some, few, rfl | rfl⟩ | ⟨w, n, k, aux, window, low, high, fits, rfl⟩
    · show Host.Outcome.next (State.slotFrameReceived offset f s) = _
      rw [slotFrame_delivered delivers slot legal, State.deliverFrame, if_pos (by exact sender)]
    · show Host.Outcome.next (State.claimReceived offset s.setup.address n set s) = _
      rw [State.claimReceived, announcement_clashes delivers window
        (claimOrRelease_legal (kind := .claim) nofun n low high some few) rfl]
    · show Host.Outcome.next (State.releaseReceived offset s.setup.address n set s) = _
      rw [State.releaseReceived, announcement_clashes delivers window
        (claimOrRelease_legal (kind := .release) nofun n low high some few) rfl]
    · show Host.Outcome.next (State.objectReceived offset s.setup.address n k aux s) = _
      rw [State.objectReceived, announcement_clashes delivers window (object_legal n k low high fits) rfl]
  obtain ⟨enters, latches⟩ := clash_spec { s with line := frameEnded s.line }
  generalize State.clash { s with line := frameEnded s.line } = u at *
  have offline : EntersOffline s u := entersOffline_of enters rfl rfl rfl rfl rfl (fun _ => rfl) fun _ => ⟨rfl, Iff.rfl⟩
  refine ⟨_, clashes, entersOffline_withLatch offline _, ?_⟩
  rw [changeFlags_noteChanges]
  exact latches_event (latches_from latches rfl)

/-! ### CLAIM (R34, R35, R67) -/

/-- R67: the OBJECT records that the purge leaves, in the words of the statement. -/
def keptRecords (s : State) : List Record :=
  s.ann.queue.filter fun r => match r with | .object k => (ownStreamAt s k).isSome | .release _ _ => true

/-- R67: the OBJECT records that a claim on own slots adds. -/
def addedRecords (s : State) (set : SlotSet) : List Record :=
  (allSlots.filter fun k => (SlotSet.has set k && (ownStreamAt s k).isSome) && !(keptRecords s).contains (.object k)).map
    Record.object

theorem any_isObjectOf (q : List Record) (k : Slot) : (q.any fun r => r.isObjectOf k) = q.contains (.object k) := by
  rw [Bool.eq_iff_iff, List.any_eq_true, List.contains_iff_mem]
  constructor
  · rintro ⟨r, mem, is⟩
    cases r with
    | object j => rw [Record.isObjectOf, beq_iff_eq] at is; exact is ▸ mem
    | release n set => cases is
  · exact fun mem => ⟨_, mem, by simp [Record.isObjectOf]⟩

/-- R35, R67: the queue after a claim. -/
def queueAfterClaim (s : State) (set : SlotSet) : List Record :=
  if s.mayDrive = true ∧ ∃ k : Slot, (SlotSet.has set k && (ownStreamAt s k).isSome) = true
  then keptRecords s ++ addedRecords s set else s.ann.queue

/-- R35, R67: the report "claim on own slot". -/
theorem claimOnOwn_eq (set : SlotSet) (s : State) :
    State.claimOnOwn set s = { s with ann := { s.ann with queue := queueAfterClaim s set } } := by
  have has (k : Slot) : SlotSet.has (s.map.ownSlotsOf s.own set) k = (SlotSet.has set k && (ownStreamAt s k).isSome) :=
    SlotSet.has_ofPred _ k
  have named : s.map.ownSlotsOf s.own set ≠ 0 ↔ ∃ k : Slot, (SlotSet.has set k && (ownStreamAt s k).isSome) = true := by
    simp only [← has]
    constructor
    · intro some
      by_contra none
      exact some (SlotSet.ext fun k => by
        rw [SlotSet.has_zero, Bool.eq_false_iff]; exact fun h => none ⟨k, h⟩)
    · rintro ⟨k, h⟩ none
      rw [none, SlotSet.has_zero] at h; cases h
  have records : objectRecords (fun k => (s.map[k].state.ownStream s.own).isSome)
      (SlotSet.toList (s.map.ownSlotsOf s.own set)) s.ann.queue = keptRecords s ++ addedRecords s set := by
    simp only [objectRecords, addedRecords, SlotSet.toList, List.filter_filter, any_isObjectOf, has]
    congr 2
    exact List.filter_congr fun k _ => Bool.and_comm _ _
  simp only [State.claimOnOwn, queueAfterClaim, records, Bool.and_eq_true, bne_iff_ne, named, and_comm (b := s.mayDrive = true)]
  split <;> rfl

/-- Settles O53: the report is made before the claim is applied, and the claim takes no publisher's entry. -/
theorem claimHeard : Obligations.ClaimHeard := by
  intro s w offset sender n set delivers window low high other some few named kept added
  have ran : exec (.claimReceived offset sender n set) s = .next (State.noteChanges s
      (State.hearClaim sender n set { s with line := frameEnded s.line })) := by
    show Host.Outcome.next (State.claimReceived offset sender n set s) = _
    rw [State.claimReceived, announcement_applied delivers window
      (claimOrRelease_legal (kind := .claim) nofun n low high some few) other]
  have reported := claimOnOwn_eq set { s with line := frameEnded s.line }
  obtain ⟨l, whole, quiet⟩ := changeMap_claim sender n set (State.claimOnOwn set { s with line := frameEnded s.line })
  rw [State.hearClaim] at ran
  have same : (State.changeMap (fun m => m.claim sender n set)
      (State.claimOnOwn set { s with line := frameEnded s.line })).streams = s.streams := by
    rw [whole, reported]
  have map : (State.changeMap (fun m => m.claim sender n set)
      (State.claimOnOwn set { s with line := frameEnded s.line })).map = s.map.claim sender n set := by
    rw [whole, reported]
  refine ⟨_, ran, ?_, fun k => ?_, latches_congr (latches_event (latches_from quiet (by rw [reported]))) fun f => ?_⟩
  · rw [noteChanges_eq, whole, reported]; rfl
  · rw [State.noteChanges_map, map]; exact claim_get _ _ _ _ _
  · rw [changeFlags_same same]; rfl

end Sys2Proof.Proofs
end

section
/-! SUPPORT. Slot frames, RELEASEs and OBJECTs of other stations: what they take from an own stream and from a tap. -/

namespace Sys2Proof.Proofs

open Sys2Proof Sys2Proof.Machine Sys2Proof.Safety

/-! ### Losses (R30, R39, R86) -/

/-- R86: the loss of one slot. -/
theorem lose_only (k : Slot) (st : Stream) : st.lose (SlotSet.only k) = lostSlotStream k st := by
  rw [lose_eq, card_only]; rfl

/-- R30, R39: the report of the loss of slot k, for whatever reason, in streams that the event has not changed. -/
theorem reportLoss_eq {s u : State} (h : u.streams = s.streams) (k : Slot) (reason : LossReason) :
    State.reportLoss (s.map[k].state.lossReport s.own k reason) u = { u with streams := streamsAfterLoss s k } := by
  unfold EntryState.lossReport streamsAfterLoss
  have own : ownStreamAt s k = s.map[k].state.ownStream s.own := rfl
  rw [own]
  cases s.map[k].state.ownStream s.own with
  | none => simp only [State.reportLoss, Option.map_none, ← h]
  | some n => simp only [State.reportLoss, Option.map_some, State.modifyStream, lose_only, h]

/-! ### The map of other stations' events, with its reports -/

/-- The state after the end of a frame in the line unit and an event in the map that takes own slots from the streams. -/
def mapChanged (f : SlotMap → SlotMap) (streams : Vector Stream 8) (s : State) : State :=
  { State.changeMap f { s with line := frameEnded s.line } with streams := streams }

theorem mapChanged_eq (f : SlotMap → SlotMap) (streams : Vector Stream 8) (s : State) :
    mapChanged f streams s = { s with
      line := frameEnded s.line, map := f s.map, streams := streams
      taps := (mapChanged f streams s).taps, latch := (mapChanged f streams s).latch } := by
  simp only [mapChanged, changeMap_eq]

theorem mapChanged_tap (f : SlotMap → SlotMap) (streams : Vector Stream 8) (s : State) (u : TapNo) :
    (mapChanged f streams s).taps[u] =
      if s.taps[u].goesStale s.map (f s.map) = true then { s.taps[u] with state := .stale } else s.taps[u] :=
  changeMap_tap f { s with line := frameEnded s.line } u

theorem mapChanged_latches (f : SlotMap → SlotMap) (streams : Vector Stream 8) (s : State) :
    Latches s (mapChanged f streams s)
      (fun g => match g with | .stale u => s.taps[u].goesStale s.map (f s.map) | _ => false) :=
  latches_of_latch (latches_from (latches_changeMap f { s with line := frameEnded s.line }) rfl) rfl

/-- R41, R86, R98, R114: an event of another station in the map, as an observer of its end sees it. -/
structure MapEvent (s : State) (m : SlotMap) (streams : Vector Stream 8) (t : State) : Prop where
  whole : t = { s with line := frameEnded s.line, map := m, streams := streams, taps := t.taps, latch := t.latch }
  taps : ∀ u : TapNo, (TapGone s.map m s.taps[u] → t.taps[u] = { s.taps[u] with state := .stale }) ∧
    (¬ TapGone s.map m s.taps[u] → t.taps[u] = s.taps[u])
  latches : Latches s t (fun g => (match g with | .stale u => s.taps[u].goesStale s.map m | _ => false) ||
    changeFlags s t g)

theorem mapEvent_of {s : State} {f : SlotMap → SlotMap} {m : SlotMap} (hm : f s.map = m) (streams : Vector Stream 8) :
    MapEvent s m streams (State.noteChanges s (mapChanged f streams s)) := by
  subst hm
  have whole := mapChanged_eq f streams s
  have taps := mapChanged_tap f streams s
  have latches := mapChanged_latches f streams s
  generalize mapChanged f streams s = u at *
  refine ⟨?_, fun v => ?_, ?_⟩
  · rw [noteChanges_eq, whole]
  · rw [State.noteChanges_taps, taps]
    exact ⟨fun h => if_pos ((goesStale_iff _ _ _).mpr h), fun h => if_neg (mt (goesStale_iff _ _ _).mp h)⟩
  · rw [changeFlags_noteChanges]
    exact latches_event latches

/-- The causes of such an event: CHANGE and STALE. -/
theorem mapEvent_causes (s t : State) (m : SlotMap) (f : Flag) :
    ((match f with | .stale u => s.taps[u].goesStale s.map m | _ => false) || changeFlags s t f) = true ↔ match f with
      | .change j => s.streams[j].visible ≠ t.streams[j].visible
      | .stale u => TapGone s.map m s.taps[u]
      | _ => False := by
  cases f with
  | change j => simp [changeFlags]
  | stale u =>
    simp only [changeFlags, Bool.or_false]
    exact goesStale_iff _ _ _
  | _ => simp [changeFlags]

/-! ### RELEASE and OBJECT (R37, R39) -/

theorem map_ext {m m' : SlotMap} (h : ∀ k : Slot, m[k] = m'[k]) : m = m' :=
  Vector.ext fun i hi => h ⟨i, hi⟩

/-- R37: the map after a RELEASE. -/
theorem release_eq (m : SlotMap) (sender : Nat) (set : SlotSet) : m.release sender set = Vector.ofFn fun k : Slot =>
    if SlotSet.has set k = true ∧ m[k].state.publisher.map Prod.fst = some sender
    then { m[k] with state := .quarantine 2 } else m[k] :=
  map_ext fun k => by rw [release_get]; simp

/-- Settles O54: the same event in the map for both, with the loss of one slot for an OBJECT. -/
theorem releaseAndObjectHeard : Obligations.ReleaseAndObjectHeard := by
  intro s w offset sender n delivers window low high other applied
  have event {c : Instr} {f : SlotMap → SlotMap} {m : SlotMap} {streams : Vector Stream 8}
      (ran : exec c s = .next (State.noteChanges s (mapChanged f streams s))) (hm : f s.map = m) : applied c m streams := by
    obtain ⟨whole, taps, latches⟩ := mapEvent_of hm streams
    exact ⟨_, _, ran, whole, taps, latches, mapEvent_causes s _ m⟩
  refine ⟨fun set some few => ?_, fun k aux fits => ?_⟩
  · refine event (f := fun m => m.release sender set) ?_ (release_eq s.map sender set)
    show Host.Outcome.next (State.releaseReceived offset sender n set s) = _
    rw [State.releaseReceived, announcement_applied delivers window
      (claimOrRelease_legal (kind := .release) nofun n low high some few) other, State.hearRelease, mapChanged]
    simp only [changeMap_eq]
  · refine event (f := fun m => m.object k sender n aux) ?_ rfl
    show Host.Outcome.next (State.objectReceived offset sender n k aux s) = _
    rw [State.objectReceived, announcement_applied delivers window (object_legal n k low high fits) other, State.hearObject]
    have lost := reportLoss_eq (s := { s with line := frameEnded s.line })
      (State.changeMap_streams (fun m => m.object k sender n aux) { s with line := frameEnded s.line }) k .objected
    rw [lost]; rfl

/-! ### Slot frames (R29, R30) -/

/-- R29, R30: another station's frame in the map and the streams. -/
theorem learnFrame_eq (k : Slot) (f : SlotFrame) (s : State) :
    State.learnFrame k f { s with line := frameEnded s.line } =
      mapChanged (fun m => m.learn k f.sender f.stream) (streamsAfterLoss s k) s :=
  reportLoss_eq (s := { s with line := frameEnded s.line })
    (State.changeMap_streams (fun m => m.learn k f.sender f.stream) { s with line := frameEnded s.line }) k
    (s.map[k].state.frameReason s.line.lostNote)

/-- Which publisher a tap follows does not change in the map's event. -/
theorem mapChanged_follows (f : SlotMap → SlotMap) (streams : Vector Stream 8) (s : State) (u : TapNo) (a : Nat)
    (n : StreamNo) : TapFollows (mapChanged f streams s) u a n ↔ TapFollows s u a n := by
  obtain ⟨tap, off⟩ := stale_tap_off (before := s.map) (after := f s.map) s.taps[u]
  rw [← mapChanged_tap f streams s u] at tap off
  have source : (mapChanged f streams s).taps[u].source = s.taps[u].source := by rw [tap]
  have stream : (mapChanged f streams s).taps[u].sourceStream = s.taps[u].sourceStream := by rw [tap]
  simp only [TapFollows, ne_eq, off, source, stream]

theorem mapChanged_tapsDiffer {f : SlotMap → SlotMap} {streams : Vector Stream 8} {s : State} (hd : TapsDiffer s) :
    TapsDiffer (mapChanged f streams s) := by
  intro t u ne ht hu same
  rw [Prod.mk.injEq] at same
  have followsU : TapFollows (mapChanged f streams s) u (mapChanged f streams s).taps[u].source
      (mapChanged f streams s).taps[u].sourceStream := ⟨hu, rfl, rfl⟩
  have followsT : TapFollows (mapChanged f streams s) t (mapChanged f streams s).taps[u].source
      (mapChanged f streams s).taps[u].sourceStream := ⟨ht, same.1, same.2⟩
  rw [mapChanged_follows] at followsU followsT
  exact ne (follows_unique hd followsT followsU)

/-- R29, R41: the publisher of the frame has an entry, so its tap is not left STALE. -/
theorem learn_follows_kept {s : State} {k : Slot} {f : SlotFrame} {u : TapNo} (hu : TapFollows s u f.sender f.stream) :
    ¬ TapGone s.map (s.map.learn k f.sender f.stream) s.taps[u] := by
  rintro ⟨-, -, none⟩
  refine none k ?_
  obtain ⟨-, source, stream⟩ := hu
  rw [SlotMap.learn, vector_set_get, if_pos rfl, source, stream]; rfl

/-- Settles O51: the frame is learnt, and then the tap that follows its publisher takes it. -/
theorem slotFrameHeard : Obligations.SlotFrameHeard := by
  intro s k offset f hd delivers slot legal other m follows
  have ran : exec (.slotFrameReceived offset f) s = .next (State.noteChanges s
      (State.tapTake f (mapChanged (fun m => m.learn k f.sender f.stream) (streamsAfterLoss s k) s))) := by
    show Host.Outcome.next (State.slotFrameReceived offset f s) = _
    rw [slotFrame_delivered delivers slot legal, State.deliverFrame, if_neg (by exact other), learnFrame_eq]
  have learnt := mapChanged_eq (fun m => m.learn k f.sender f.stream) (streamsAfterLoss s k) s
  have taps := mapChanged_tap (fun m => m.learn k f.sender f.stream) (streamsAfterLoss s k) s
  have stale := mapChanged_latches (fun m => m.learn k f.sender f.stream) (streamsAfterLoss s k) s
  have followed (u : TapNo) := mapChanged_follows (fun m => m.learn k f.sender f.stream) (streamsAfterLoss s k) s u f.sender f.stream
  have differ := mapChanged_tapsDiffer (f := fun m => m.learn k f.sender f.stream) (streams := streamsAfterLoss s k) hd
  generalize mapChanged (fun m => m.learn k f.sender f.stream) (streamsAfterLoss s k) s = v at *
  have free : v.freeBuffers = s.freeBuffers := by rw [learnt]
  have gone (u : TapNo) : s.taps[u].goesStale s.map m = true ↔ TapGone s.map m s.taps[u] := goesStale_iff _ _ _
  have kept (u : TapNo) (hu : follows u) : v.taps[u] = s.taps[u] :=
    (taps u).trans (if_neg (mt (gone u).mp (learn_follows_kept hu)))
  obtain ⟨whole, each, granted, unfollowed, latches⟩ := tapTake_spec differ f
  generalize State.tapTake f v = t at *
  have left (u : TapNo) (hu : ¬ follows u) : t.taps[u] =
      if s.taps[u].goesStale s.map m = true then { s.taps[u] with state := .stale } else s.taps[u] := by
    rw [each, if_neg (mt (followed u).mp hu)]; exact taps u
  refine ⟨_, _, ran, ?_, fun u => ⟨fun hu => ⟨?_, ?_⟩, fun hu => ?_, fun hu stays => ?_⟩, fun none => ?_, ?_,
    latches_event (latches_trans stale latches), fun g => ?_⟩
  · rw [noteChanges_eq, whole, learnt]; rfl
  · rw [State.noteChanges_taps, each, if_pos ((followed u).mpr hu), kept u hu, free]
  · rw [State.noteChanges_freeBuffers, granted u ((followed u).mpr hu), kept u hu, free]
  · rw [State.noteChanges_taps, left u fun follows => learn_follows_kept follows hu]
    exact if_pos ((gone u).mpr hu)
  · rw [State.noteChanges_taps, left u hu]
    exact if_neg (mt (gone u).mp stays)
  · rw [State.noteChanges_freeBuffers, unfollowed fun u hu => none u ((followed u).mp hu), free]
  · unfold State.frameLoss EntryState.lossReport EntryState.frameReason ownStreamAt
    cases s.map[k].state <;> rfl
  · cases g with
    | change n => simp [changeFlags]
    | stale u =>
      simp only [changeFlags, Bool.or_false]
      exact gone u
    | data u =>
      simp only [changeFlags, Bool.or_false, Bool.false_or, Bool.and_eq_true, decide_eq_true_eq, followed, free]
      exact and_congr_right fun hu => by rw [kept u hu]
    | loss u =>
      simp only [changeFlags, Bool.or_false, Bool.false_or, Bool.and_eq_true, decide_eq_true_eq, followed, free]
      exact and_congr_right fun hu => by rw [kept u hu]
    | _ => simp [changeFlags]

end Sys2Proof.Proofs
end

section
/-! SUPPORT. A boundary in the slot map, the streams, the taps and the event latch: what it has made of them when station
control takes it, and what station control then adds. -/

namespace Sys2Proof.Proofs

open Sys2Proof Sys2Proof.Machine Sys2Proof.Safety

/-! ### Reports at a boundary (R28) -/

/-- R28: the slots that a boundary reports LAPSED to a stream. -/
def lapsedTo (s : State) (n : StreamNo) : SlotSet := s.map.lapsedSlots s.own s.setup.leaseLimit n

/-- R28: the slots that it reports CONFIRMED. -/
def confirmedTo (s : State) (n : StreamNo) : SlotSet := s.map.confirmedSlots s.own n

theorem ownHeld_of_lapses {leaseLimit own : Nat} {e : Entry} (h : e.lapses leaseLimit = true) :
    e.state.ownHeld own = e.state.ownStream own := by
  unfold Entry.lapses at h
  split at h
  · next o n silent d held => rw [held]; rfl
  · cases h

theorem ownPending_of_confirms {own : Nat} {e : Entry} (h : e.confirms = true) :
    e.state.ownPending own = e.state.ownStream own := by
  unfold Entry.confirms at h
  split at h
  · next o n c d pending => rw [pending]; rfl
  · cases h

theorem has_lapsedTo (s : State) (n : StreamNo) (k : Slot) :
    SlotSet.has (lapsedTo s n) k = true ↔ LapsesFor s n k := by
  rw [lapsedTo, SlotMap.lapsedSlots, SlotSet.has_ofPred, Bool.and_eq_true, beq_iff_eq, LapsesFor, ← lapseDue_iff]
  exact and_congr_right fun h => by rw [ownHeld_of_lapses h]; rfl

theorem has_confirmedTo (s : State) (n : StreamNo) (k : Slot) :
    SlotSet.has (confirmedTo s n) k = true ↔ ConfirmsFor s n k := by
  rw [confirmedTo, SlotMap.confirmedSlots, SlotSet.has_ofPred, Bool.and_eq_true, beq_iff_eq, ConfirmsFor, ← confirmDue_iff]
  exact and_congr_right fun h => by rw [ownPending_of_confirms h]; rfl

/-! ### A stream at a boundary -/

theorem raise_zero (c : Counter) : Counter.raise c 0 = c := by
  have := c.isLt
  apply BitVec.eq_of_toNat_eq
  rw [Counter.raise, BitVec.toNat_ofNat]
  omega

theorem card_zero : SlotSet.card 0 = 0 := by decide

/-- R85, R86: a stream after its CONFIRMED and LAPSED reports. -/
def reportedStream (confirmed lapsed : SlotSet) (st : Stream) : Stream := { st with
  held := (st.held ||| confirmed) &&& ~~~lapsed, pending := st.pending &&& ~~~(confirmed ||| lapsed)
  lost := Counter.raise st.lost (SlotSet.card lapsed)
  state := if StreamIsOpen st ∧ (confirmed ≠ 0 ∨ lapsed ≠ 0)
    then derivedState ((st.held ||| confirmed) &&& ~~~lapsed) st.wanted else st.state }

theorem derivedState_open (held : SlotSet) (wanted : Nat) (st : Stream) :
    StreamIsOpen { st with state := derivedState held wanted } := by
  unfold StreamIsOpen derivedState
  dsimp only
  split_ifs <;> simp

theorem without_or (a b c : SlotSet) : a &&& ~~~b &&& ~~~c = a &&& ~~~(b ||| c) :=
  SlotSet.ext fun k => by simp [Bool.and_assoc]

theorem without_zero (a : SlotSet) : a &&& ~~~0 = a := by
  show a &&& ~~~0#32 = a
  rw [BitVec.not_zero, BitVec.and_allOnes]

theorem or_zero (a : SlotSet) : a ||| 0 = a :=
  SlotSet.ext fun k => by simp

/-- A report of no slots is no report. -/
theorem confirmed_eq (c : SlotSet) (st : Stream) : (if c = 0 then st else st.confirm c) = { st with
    held := st.held ||| c, pending := st.pending &&& ~~~c
    state := if StreamIsOpen st ∧ c ≠ 0 then derivedState (st.held ||| c) st.wanted else st.state } := by
  split
  · next none =>
    subst none
    rw [or_zero, without_zero, if_neg (fun h => h.2 rfl)]
  · next some => simp only [confirm_eq, ne_eq, some, not_false_eq_true, and_true]

theorem lapsed_eq (l : SlotSet) (st : Stream) : (if l = 0 then st else st.lose l) = { st with
    held := st.held &&& ~~~l, pending := st.pending &&& ~~~l, lost := Counter.raise st.lost (SlotSet.card l)
    state := if StreamIsOpen st ∧ l ≠ 0 then derivedState (st.held &&& ~~~l) st.wanted else st.state } := by
  split
  · next none =>
    subst none
    rw [without_zero, without_zero, card_zero, raise_zero, if_neg (fun h => h.2 rfl)]
  · next some => simp only [lose_eq, ne_eq, some, not_false_eq_true, and_true]

theorem reported_eq (c l : SlotSet) (st : Stream) :
    (if l = 0 then (if c = 0 then st else st.confirm c) else (if c = 0 then st else st.confirm c).lose l) =
      reportedStream c l st := by
  rw [lapsed_eq, confirmed_eq, reportedStream]
  simp only [without_or, Stream.mk.injEq, and_true]
  by_cases isOpen : StreamIsOpen st
  · by_cases none : c = 0
    · simp only [none, isOpen, ne_eq, not_true_eq_false, and_false, if_false, false_or, or_zero]
    · have stays := derivedState_open (st.held ||| c) st.wanted
        { st with held := st.held ||| c, pending := st.pending &&& ~~~c }
      by_cases kept : l = 0
      · simp only [none, isOpen, kept, ne_eq, not_true_eq_false, not_false_eq_true, and_false, and_true, or_false, if_true,
          if_false, without_zero]
      · simp only [none, isOpen, kept, ne_eq, not_false_eq_true, and_self, or_self, if_true, stays]
  · simp only [isOpen, false_and, if_false]

/-- R66: the backoff of a stream at a boundary. -/
theorem countBackoff_eq (reload : Nat) (st : Stream) : st.countBackoff reload = { st with
    backoff := st.backoff - 1, attempts := if st.backoff = 1 then reload else st.attempts } := by
  unfold Stream.countBackoff
  split
  · next none =>
    rw [if_neg (by omega), none, Nat.zero_sub, ← none]
  · next some =>
    split
    · next last =>
      have : st.backoff = 1 := by omega
      simp [this]
    · next more =>
      have : st.backoff ≠ 1 := by omega
      simp [this]

/-- R28, R66, R69, R73, R85 to R88: stream n after a boundary, before station control takes it. -/
def boundaryStream (s : State) (n : StreamNo) : Stream :=
  let st := reportedStream (confirmedTo s n) (lapsedTo s n) s.streams[n]
  { st with
    state := if ReachesCloseLimit s n then .closed else st.state
    held := if ReachesCloseLimit s n then 0 else st.held
    pending := if ReachesCloseLimit s n then 0 else st.pending
    closeCount := if st.state = .releasing then st.closeCount + 1 else st.closeCount
    backoff := if s.streams[n].state = .closed then st.backoff else st.backoff - 1
    attempts := if s.streams[n].state ≠ .closed ∧ st.backoff = 1 then s.setup.attemptReload else st.attempts
    stall := if s.streams[n].countsStall s.station.state = true then st.stall + 1 else st.stall }

/-! ### The boundary's middle -/

theorem reportedStream_releasing (c l : SlotSet) (st : Stream) :
    (reportedStream c l st).state = .releasing ↔ st.state = .releasing := by
  unfold reportedStream
  dsimp only
  by_cases h : StreamIsOpen st
  · have := derived_releasing_iff st ((st.held ||| c) &&& ~~~l) st.wanted
    rw [if_pos h] at this
    split
    · exact this
    · exact Iff.rfl
  · simp [h]

/-- R25 to R28: the map, the streams and the taps of a boundary. -/
theorem ageMap_eq (s : State) : State.ageMap s = { s with
    map := s.map.boundary s.setup.leaseLimit
    streams := Vector.ofFn fun n => reportedStream (confirmedTo s n) (lapsedTo s n) s.streams[n]
    taps := (State.changeMap (fun m => m.boundary s.setup.leaseLimit) s).taps
    latch := (State.changeMap (fun m => m.boundary s.setup.leaseLimit) s).latch } := by
  simp only [State.ageMap, changeMap_eq, State.updateStreams, reported_eq]
  simp only [confirmedTo, lapsedTo]

/-- R88: the streams after the close counts. -/
def closeCounted (s : State) (n : StreamNo) : Stream :=
  let st := reportedStream (confirmedTo s n) (lapsedTo s n) s.streams[n]
  { st with closeCount := if st.state = .releasing then st.closeCount + 1 else st.closeCount }

theorem countCloses_eq (s : State) : State.countCloses (State.ageMap s) = { State.ageMap s with
    streams := Vector.ofFn fun n => closeCounted s n } := by
  have each (n : StreamNo) : (State.ageMap s).streams[n] = reportedStream (confirmedTo s n) (lapsedTo s n) s.streams[n] := by
    simp [ageMap_eq]
  simp only [State.countCloses, State.updateStreams, each]
  congr 1
  congr 1
  funext n
  unfold closeCounted
  dsimp only
  split <;> rfl

/-- R69, R88: which streams a boundary releases silently. -/
theorem closeCounted_atCloseLimit (s : State) (n : StreamNo) :
    (closeCounted s n).atCloseLimit = decide (ReachesCloseLimit s n) := by
  have limit : closeLimitCount = 8 := rfl
  have releasing := reportedStream_releasing (confirmedTo s n) (lapsedTo s n) s.streams[n]
  have count : (reportedStream (confirmedTo s n) (lapsedTo s n) s.streams[n]).closeCount = s.streams[n].closeCount := rfl
  rw [Bool.eq_iff_iff, decide_eq_true_eq]
  simp only [Stream.atCloseLimit, closeCounted, Bool.and_eq_true, beq_iff_eq, decide_eq_true_eq, releasing, count, limit]
  refine and_congr_right fun h => ?_
  rw [if_pos h]
  omega

/-- R69, R88: the overdue streams are those that reach the close limit. -/
theorem releaseOverdue_ageMap (s : State) : State.releaseOverdue (State.countCloses (State.ageMap s)) =
    releasedSilently (fun n => decide (ReachesCloseLimit s n)) (State.countCloses (State.ageMap s)) := by
  have each (n : StreamNo) : (State.countCloses (State.ageMap s)).streams[n] = closeCounted s n := by
    simp [countCloses_eq]
  simp only [releaseOverdue_eq, each, closeCounted_atCloseLimit]

theorem hasFlag_stalled (p : StreamNo → Bool) (f : Flag) :
    hasFlag (streamFlags .stalled p) f = match f with | .stalled n => p n | _ => false := by
  rw [hasFlag_streamFlags]
  cases f with
  | stalled m =>
    rw [Bool.eq_iff_iff, List.any_eq_true]
    simp only [List.mem_finRange, Bool.and_eq_true, decide_eq_true_eq, true_and, Flag.stalled.injEq]
    exact ⟨fun ⟨n, hn, e⟩ => e ▸ hn, fun h => ⟨_, h, rfl⟩⟩
  | _ => simp

end Sys2Proof.Proofs
end

section
/-! SUPPORT. What a boundary has made of the slot map, the streams, the taps and the event latch when station control
takes it, and what station control then adds. -/

namespace Sys2Proof.Proofs

open Sys2Proof Sys2Proof.Machine Sys2Proof.Safety

/-! ### The new cycle -/

theorem endBreak_eq_ite (s : State) : State.endBreak s = { s with line := { s.line with
    transmit := if s.line.transmit = .driving .brk then .idle else s.line.transmit
    txd := if s.line.transmit = .driving .brk then .recessive else s.line.txd } } := by
  unfold State.endBreak
  split <;> rfl

/-- R134, R139: the own break's end and the receive side do not meet. -/
theorem noteReception_endBreak (rx : Option Stretch) (s : State) :
    State.endBreak (State.noteReception rx s) = State.noteReception rx (State.endBreak s) := by
  obtain ⟨setup, station, timer, ⟨receiver, run, segment, condition, assembly, transmit, note, errors, txd⟩, map, ann,
    streams, taps, free, latch, port, pins, choices, pending⟩ := s
  simp only [endBreak_eq_ite]
  cases begins : begun rx with
  | none => simp only [State.noteReception, begins]
  | some r =>
    cases receiver <;> cases condition <;> by_cases outside : segment = .outside <;> by_cases tail : segment = .markTail <;>
      simp [State.noteReception, State.beginCharacter, begins, outside, tail, rxError_eq, errorTimer, errorLatch, errorCount,
        State.countsErrors]

theorem closeSegment_endBreak (rx : Option Stretch) (s : State) :
    State.closeSegment none (State.endBreak (State.noteReception rx s)) = State.closeSegment rx (State.endBreak s) := by
  rw [noteReception_endBreak, closeSegment_noteReception]

/-- R5, R10, R139: a boundary opens the new cycle in the cycle timer and the line unit, and latches at most a receive
error. -/
theorem openCycle_frame {kind : BoundaryKind} {rx : Option Stretch} {u w : State}
    (h : State.closeSegment none (State.endBreak u) = State.closeSegment rx (State.endBreak w)) :
    ∃ timer line, State.openCycle kind u =
      { w with timer := timer, line := line, latch := errorLatch (cutShort w rx) w.latch } := by
  have same : cutShort (State.endBreak w) rx = cutShort w rx := by rw [endBreak_eq_ite]; rfl
  rw [openCycle_eq h]
  cases kind with
  | heard =>
    dsimp only
    rw [handMark_eq, cycleOpened, same, endBreak_eq_ite]
    exact ⟨_, _, rfl⟩
  | synthesized =>
    dsimp only
    rw [cycleOpened, same, endBreak_eq_ite]
    exact ⟨_, _, rfl⟩

theorem openCycle_boundaryState (s : State) (kind : BoundaryKind) (c : Instr) :
    ∃ timer line, State.openCycle kind (boundaryState s c) =
      { s with timer := timer, line := line, latch := errorLatch (cutShort s (boundaryReception c)) s.latch } := by
  have named (h : boundaryState s c = s) (none : boundaryReception c = none) :
      ∃ timer line, State.openCycle kind (boundaryState s c) =
        { s with timer := timer, line := line, latch := errorLatch (cutShort s (boundaryReception c)) s.latch } := by
    rw [h, none]
    exact openCycle_frame rfl
  cases c with
  | markTimerExpiry run rx =>
    obtain ⟨timer, line, opened⟩ := openCycle_frame (kind := kind) (closeSegment_endBreak rx (State.expire run s))
    rw [expire_eq] at opened
    show ∃ timer line, State.openCycle kind (State.noteReception rx (State.expire run s)) = _
    rw [expire_eq]
    exact ⟨timer, line, opened⟩
  | _ => exact named rfl rfl

/-! ### The boundary as station control finds it -/

/-- R73: a stream's waits at a boundary, from what it was when the boundary was taken. -/
def counted (taken : State) (reload : Nat) (n : StreamNo) (st : Stream) : Stream := { st with
  backoff := if taken.streams[n].state = .closed then st.backoff else st.backoff - 1
  attempts := if taken.streams[n].state ≠ .closed ∧ st.backoff = 1 then reload else st.attempts
  stall := if taken.streams[n].countsStall taken.station.state = true then st.stall + 1 else st.stall }

theorem countWaits_eq (taken s : State) : State.countWaits taken s = State.causes
    (streamFlags .stalled fun n => decide (Stalls taken n))
    (State.updateStreams (counted taken s.setup.attemptReload) s) := by
  have due (n : StreamNo) : (taken.streams[n].countsStall taken.station.state &&
      taken.streams[n].stall + 1 == stallLimit) = decide (Stalls taken n) := by
    rw [Bool.eq_iff_iff, decide_eq_true_eq, ← stallDue_iff]; rfl
  have each : (fun n st =>
      let st := if taken.streams[n].state = .closed then st else Stream.countBackoff s.setup.attemptReload st
      if taken.streams[n].countsStall taken.station.state then { st with stall := st.stall + 1 } else st) =
      counted taken s.setup.attemptReload := by
    funext n st
    simp only [countBackoff_eq, counted]
    by_cases closed : taken.streams[n].state = .closed <;>
      by_cases stalls : taken.streams[n].countsStall taken.station.state = true <;>
      simp only [closed, stalls, if_true, if_false, ne_eq, not_true_eq_false, not_false_eq_true, false_and, true_and] <;> rfl
  simp only [State.countWaits, due]
  rw [each]

/-- R28, R66, R73, R85 to R88: the causes that a boundary has before station control takes it. -/
def boundaryCauses (s : State) (err : Bool) : Flag → Bool
  | .rxError => err
  | .stalled n => decide (Stalls s n)
  | .stale u => s.taps[u].goesStale s.map (s.map.boundary s.setup.leaseLimit)
  | _ => false

/-- What a boundary has made of the state s when station control takes it as m. -/
structure BoundaryReached (s : State) (err : Bool) (m : State) : Prop where
  station : m.station = s.station
  map : m.map = (s.map.boundary s.setup.leaseLimit).detach s.own fun n => decide (ReachesCloseLimit s n)
  streams : ∀ n : StreamNo, m.streams[n] = boundaryStream s n
  taps : ∀ u : TapNo, m.taps[u] = if s.taps[u].goesStale s.map (s.map.boundary s.setup.leaseLimit) = true
    then { s.taps[u] with state := .stale } else s.taps[u]
  setup : m.setup = s.setup
  freeBuffers : m.freeBuffers = s.freeBuffers
  offer : m.ann.offer = s.ann.offer
  queue : m.ann.queue = s.ann.queue.filter fun r =>
    (releaseOf r).all fun owner => !decide (ReachesCloseLimit s owner.1)
  latches : Latches s m (boundaryCauses s err)

theorem noteReception_frame (rx : Option Stretch) (s : State) :
    ∃ timer line latch, State.noteReception rx s = { s with timer := timer, line := line, latch := latch } := by
  have begins (r : Reception) : ∃ timer line latch, State.beginCharacter r s =
      { s with timer := timer, line := line, latch := latch } := by
    unfold State.beginCharacter
    split
    · split
      · exact ⟨_, _, _, rfl⟩
      · rw [rxError_eq]; exact ⟨_, _, _, rfl⟩
      · exact ⟨_, _, _, rfl⟩
    · exact ⟨_, _, _, rfl⟩
  unfold State.noteReception
  split
  · exact ⟨_, _, _, rfl⟩
  · next r _ =>
    obtain ⟨timer, line, latch, begun⟩ := begins r
    dsimp only
    rw [begun]
    split <;> exact ⟨_, _, _, rfl⟩

theorem boundaryState_frame (s : State) (c : Instr) :
    (boundaryState s c).streams = s.streams ∧ (boundaryState s c).station = s.station := by
  cases c with
  | markTimerExpiry run rx =>
    obtain ⟨timer, line, latch, noted⟩ := noteReception_frame rx (State.expire run s)
    show (State.noteReception rx (State.expire run s)).streams = _ ∧ (State.noteReception rx (State.expire run s)).station = _
    rw [noted, expire_eq]
    exact ⟨rfl, rfl⟩
  | _ => exact ⟨rfl, rfl⟩

/-- R66, R69, R73, R88: the close limit and the waits of a stream. -/
theorem counted_closeCounted {s taken : State} (streams : taken.streams = s.streams) (station : taken.station = s.station)
    (n : StreamNo) : counted taken s.setup.attemptReload n
      (if decide (ReachesCloseLimit s n) = true then (closeCounted s n).close else closeCounted s n) =
    boundaryStream s n := by
  simp only [counted, streams, station, boundaryStream, closeCounted, decide_eq_true_eq]
  by_cases reaches : ReachesCloseLimit s n
  · rw [if_pos reaches, if_pos reaches, if_pos reaches, if_pos reaches]; rfl
  · rw [if_neg reaches, if_neg reaches, if_neg reaches, if_neg reaches]

/-- R25 to R28, R66, R69, R73, R88: what the boundary's middle makes of a state. -/
theorem boundaryMiddle_reached {s taken : State} (streams : taken.streams = s.streams) (station : taken.station = s.station) :
    BoundaryReached s false (State.countWaits taken (State.releaseOverdue (State.countCloses (State.ageMap s)))) := by
  rw [countWaits_eq, releaseOverdue_ageMap, countCloses_eq]
  have map : (State.ageMap s).map = s.map.boundary s.setup.leaseLimit := by rw [ageMap_eq]
  have taps (u : TapNo) : (State.ageMap s).taps[u] =
      (State.changeMap (fun m => m.boundary s.setup.leaseLimit) s).taps[u] := by rw [ageMap_eq]
  have free : (State.ageMap s).freeBuffers = s.freeBuffers := by rw [ageMap_eq]
  have latch : (State.ageMap s).latch =
      (State.changeMap (fun m => m.boundary s.setup.leaseLimit) s).latch := by rw [ageMap_eq]
  have ann : (State.ageMap s).ann = s.ann := by rw [ageMap_eq]
  have setup := ageMap_setup s
  have own := ageMap_station s
  generalize State.ageMap s = aged at map taps free latch ann setup own ⊢
  refine ⟨?_, ?_, fun n => ?_, fun u => ?_, ?_, ?_, ?_, ?_, ?_⟩
  · simp only [State.causes_station, State.updateStreams_station, releasedSilently, own]
  · simp only [State.causes_map, State.updateStreams_map, releasedSilently, State.own, setup, map]
  · rw [State.causes_streams, State.updateStreams_get]
    simp only [releasedSilently, Fin.getElem_fin, Vector.getElem_ofFn, Fin.eta, setup, ← counted_closeCounted streams station n]
  · simp only [State.causes_taps, State.updateStreams_taps, releasedSilently, taps]
    exact changeMap_tap (fun m => m.boundary s.setup.leaseLimit) s u
  · simp only [State.causes_setup, State.updateStreams_setup, releasedSilently, setup]
  · simp only [State.causes_freeBuffers, State.updateStreams_freeBuffers, releasedSilently, free]
  · simp only [State.causes_ann, State.updateStreams_ann, releasedSilently, ann]
  · simp only [State.causes_ann, State.updateStreams_ann, releasedSilently, ann]
    refine congrArg (fun keep => s.ann.queue.filter keep) (funext fun r => ?_)
    cases releaseOf r <;> rfl
  · have stale := latches_of_latch (latches_changeMap (fun m => m.boundary s.setup.leaseLimit) s) latch
    generalize waiting : State.updateStreams _ _ = waits
    have kept : waits.latch = aged.latch := by
      rw [← waiting]; simp only [State.updateStreams_latch, releasedSilently]
    have stalled := latches_causes kept (streamFlags .stalled fun n => decide (Stalls taken n))
    refine latches_congr (latches_trans stale stalled) fun f => ?_
    rw [hasFlag_stalled]
    cases f <;> simp [boundaryCauses, Stalls, streams, station]

/-- What the new cycle changes is no matter to the rest of the boundary. -/
theorem BoundaryReached.of_openCycle {s m : State} {timer : Timer} {line : Line} {err : Bool}
    (h : BoundaryReached { s with timer := timer, line := line, latch := errorLatch err s.latch } false m) :
    BoundaryReached s err m := by
  obtain ⟨station, map, streams, taps, setup, free, offer, queue, latches⟩ := h
  have receiveError : Latches s { s with timer := timer, line := line, latch := errorLatch err s.latch } (errorFlag err) :=
    latches_error rfl
  refine ⟨station, map, streams, taps, setup, free, offer, queue, latches_congr (latches_trans receiveError latches) fun f => ?_⟩
  cases f <;> simp [boundaryCauses, errorFlag]

theorem beforeStation_reached (s : State) (kind : BoundaryKind) (c : Instr) :
    BoundaryReached s (cutShort s (boundaryReception c)) (beforeStation kind (boundaryState s c)) := by
  obtain ⟨timer, line, opened⟩ := openCycle_boundaryState s kind c
  obtain ⟨streams, station⟩ := boundaryState_frame s c
  have reached := boundaryMiddle_reached (taken := boundaryState s c)
    (s := State.openCycle kind (boundaryState s c)) (by rw [opened]; exact streams) (by rw [opened]; exact station)
  rw [beforeStation]
  generalize State.countWaits _ _ = m at reached ⊢
  rw [opened] at reached
  exact reached.of_openCycle

/-! ### Station control at a boundary -/

/-- The station's own causes at a boundary. -/
def stationCauses (s t : State) : Flag → Bool
  | .joined => decide (s.station.state = .listening ∧ t.station.state = .active)
  | .left => decide (Leaves s t)
  | .muted => decide (Mutes s t)
  | _ => false

/-- R151, R154 to R156, R158: what station control makes of what the other blocks have left: a leave ends, after a silent
release of the RELEASING streams or without; the station is muted; or nothing but station control, the lone-start count
and JOINED changes. -/
theorem stationBoundary_cases (kind : BoundaryKind) (m : State) :
    let t := State.stationBoundary kind m.station.state m
    (Leaves m t ∧ ∃ p, t = State.leaveEnds (releasedSilently p (State.takeVerdict m))) ∨
    (Mutes m t ∧ t = State.enterMuted (State.takeVerdict m)) ∨
    (¬ Leaves m t ∧ ¬ Mutes m t ∧ Latches m t (stationCauses m t) ∧
      ∃ station timer latch, t = { m with station := station, timer := timer, latch := latch }) := by
  intro t
  have stays {t : State} (hst : t.station.state = m.station.state) (hl : t.latch = m.latch) :
      ¬ Leaves m t ∧ ¬ Mutes m t ∧ Latches m t (stationCauses m t) := by
    refine ⟨fun ⟨leaving, offline⟩ => ?_, fun ⟨active, muted⟩ => ?_, latches_congr (latches_none hl) fun f => ?_⟩
    · rw [hst, leaving] at offline; cases offline
    · rw [hst, active] at muted; cases muted
    · cases h : m.station.state <;> cases f <;> simp [noFlag, stationCauses, hst, h]
  cases h : m.station.state with
  | initialising | offline =>
    have : t = m := by simp only [t, h, State.stationBoundary]
    rw [this]
    obtain ⟨l, mu, la⟩ := stays (t := m) rfl rfl
    exact .inr (.inr ⟨l, mu, la, _, _, _, rfl⟩)
  | listening =>
    have awake : ¬ Leaves m t ∧ ¬ Mutes m t := ⟨fun l => (nomatch h.symm.trans l.1), fun mu => (nomatch h.symm.trans mu.1)⟩
    refine .inr (.inr ⟨awake.1, awake.2, ?_⟩)
    have joins (u : State) (hu : u.latch = m.latch) : Latches m (State.join u) (stationCauses m (State.join u)) :=
      latches_congr (latches_one (f := .joined) (by rw [State.join, ← hu]; rfl)) fun f => by
        cases f <;> simp [oneFlag, stationCauses, Leaves, Mutes, h, State.join, State.latches, State.causes]
    simp only [t, h, State.stationBoundary]
    cases kind with
    | synthesized => exact ⟨(stays rfl rfl).2.2, _, _, _, rfl⟩
    | heard =>
      dsimp only
      split
      · exact ⟨joins _ rfl, _, _, _, rfl⟩
      · exact ⟨(stays rfl rfl).2.2, _, _, _, rfl⟩
  | active =>
    by_cases mutes : faultThresholdCount ≤ faultyCount m.takeVerdict.station.window
    · have taken : t = m.takeVerdict.enterMuted := by simp only [t, h, State.stationBoundary, if_pos mutes]
      exact .inr (.inl ⟨⟨h, by rw [taken, enterMuted_station]⟩, taken⟩)
    · have taken : t = m.takeVerdict := by simp only [t, h, State.stationBoundary, if_neg mutes]
      obtain ⟨l, mu, la⟩ := stays (t := m.takeVerdict) rfl rfl
      rw [taken]
      exact .inr (.inr ⟨l, mu, la, _, _, _, rfl⟩)
  | muted =>
    have awake : ¬ Leaves m t ∧ ¬ Mutes m t := ⟨fun l => (nomatch h.symm.trans l.1), fun mu => (nomatch h.symm.trans mu.1)⟩
    refine .inr (.inr ⟨awake.1, awake.2, ?_⟩)
    have quiet (u : State) (hu : u.latch = m.latch) : Latches m u (stationCauses m u) :=
      latches_congr (latches_none hu) fun f => by cases f <;> simp [noFlag, stationCauses, h]
    simp only [t, h, State.stationBoundary]
    split <;> exact ⟨quiet _ rfl, _, _, _, rfl⟩
  | leaving =>
    by_cases mutes : faultThresholdCount ≤ faultyCount m.takeVerdict.station.window
    · have taken : t = State.leaveEnds (State.silentReleaseAll m.takeVerdict) := by
        simp only [t, h, State.stationBoundary, if_pos mutes]
      rw [silentReleaseAll_eq] at taken
      exact .inl ⟨⟨h, by rw [taken]; rfl⟩, _, taken⟩
    · have taken : t = m.takeVerdict.leaveIfDone := by simp only [t, h, State.stationBoundary, if_neg mutes]
      by_cases done : m.takeVerdict.station.state = .leaving ∧ m.takeVerdict.allClosed = true
      · rw [leaveIfDone_done done] at taken
        exact .inl ⟨⟨h, by rw [taken]; rfl⟩, fun _ => false, by rw [releasedSilently_none]; exact taken⟩
      · rw [leaveIfDone_open done] at taken
        obtain ⟨l, mu, la⟩ := stays (t := m.takeVerdict) rfl rfl
        rw [taken]
        exact .inr (.inr ⟨l, mu, la, _, _, _, rfl⟩)

/-- R89, R155, R158, R160: what station control makes of the other blocks when it takes a boundary. -/
structure StationTakes (m t : State) : Prop where
  leaves_map : Leaves m t → MapClear t.map
  leaves_stream : Leaves m t → ∀ n : StreamNo, t.streams[n] = m.streams[n].offline
  leaves_tap : Leaves m t → ∀ u : TapNo, t.taps[u] = m.taps[u].offline
  leaves_free : Leaves m t → t.freeBuffers = m.freeBuffers + m.sumStreams Stream.buffers
  mutes_map : Mutes m t → t.map = m.map.detach m.own fun _ => true
  mutes_stream : Mutes m t → ∀ n : StreamNo, t.streams[n] = m.streams[n].muted
  stays_map : ¬ Leaves m t → ¬ Mutes m t → t.map = m.map
  stays_stream : ¬ Leaves m t → ¬ Mutes m t → t.streams = m.streams
  stays_taps : ¬ Leaves m t → t.taps = m.taps
  stays_free : ¬ Leaves m t → t.freeBuffers = m.freeBuffers

theorem sumStreams_congr {f : Stream → Nat} {s t : State} (h : ∀ n : StreamNo, f t.streams[n] = f s.streams[n]) :
    t.sumStreams f = s.sumStreams f := by
  simp only [State.sumStreams, h]

theorem enterOffline_stream (s : State) (n : StreamNo) : (State.enterOffline s).streams[n] = s.streams[n].offline := by
  simp [State.enterOffline]

theorem offline_close (st : Stream) : st.close.offline = st.offline := by
  rw [offline_eq, offline_eq]; rfl

/-- R69, R90: a silent release, and then entry to OFFLINE, is entry to OFFLINE. -/
theorem leaveEnds_releasedSilently (p : StreamNo → Bool) (m : State) : ∃ t,
    State.leaveEnds (releasedSilently p (State.takeVerdict m)) = t ∧ MapClear t.map ∧
    (∀ n : StreamNo, t.streams[n] = m.streams[n].offline) ∧ (∀ u : TapNo, t.taps[u] = m.taps[u].offline) ∧
    t.freeBuffers = m.freeBuffers + m.sumStreams Stream.buffers ∧ t.latch = m.latch.causes Flag.left.only := by
  have released (n : StreamNo) : (releasedSilently p m.takeVerdict).streams[n] =
      if p n = true then m.streams[n].close else m.streams[n] := by
    simp [releasedSilently, State.takeVerdict]
  have buffers : (releasedSilently p m.takeVerdict).sumStreams Stream.buffers = m.sumStreams Stream.buffers :=
    sumStreams_congr fun n => by rw [released]; split <;> rfl
  refine ⟨_, rfl, fun k => ?_, fun n => ?_, fun u => ?_, ?_, rfl⟩
  · simp [State.leaveEnds, State.enterOffline, SlotMap.cleared]
  · rw [State.leaveEnds, State.latches_streams, enterOffline_stream, released]
    split
    · exact offline_close _
    · rfl
  · simp [State.leaveEnds, State.enterOffline, releasedSilently, State.takeVerdict]
  · show m.freeBuffers + (releasedSilently p m.takeVerdict).sumStreams Stream.buffers = _
    rw [buffers]

/-- R89, R155: entry to MUTED. -/
theorem enterMuted_takeVerdict (m : State) : ∃ t, State.enterMuted (State.takeVerdict m) = t ∧
    t.map = (m.map.detach m.own fun _ => true) ∧ (∀ n : StreamNo, t.streams[n] = m.streams[n].muted) ∧
    t.taps = m.taps ∧ t.freeBuffers = m.freeBuffers ∧ t.latch = m.latch.causes Flag.muted.only := by
  refine ⟨_, rfl, ?_, fun n => ?_, ?_, ?_, ?_⟩
  · rw [enterMuted_map]; rfl
  · rw [State.enterMuted, State.latches_streams, State.updateStreams_get]; rfl
  · simp [State.enterMuted, State.takeVerdict]
  · simp [State.enterMuted, State.takeVerdict]
  · rfl

theorem stationBoundary_takes (kind : BoundaryKind) (m : State) :
    StationTakes m (State.stationBoundary kind m.station.state m) ∧
    Latches m (State.stationBoundary kind m.station.state m) (stationCauses m (State.stationBoundary kind m.station.state m)) := by
  have cases := stationBoundary_cases kind m
  generalize State.stationBoundary kind m.station.state m = t at cases
  rcases cases with ⟨leaves, p, whole⟩ | ⟨mutes, whole⟩ | ⟨open_, awake, latches, station, timer, latch, whole⟩
  · have awake : ¬ Mutes m t := fun mutes => nomatch leaves.1.symm.trans mutes.1
    obtain ⟨_, rfl, map, streams, taps, free, latch⟩ := leaveEnds_releasedSilently p m
    rw [← whole] at map streams taps free latch
    refine ⟨⟨fun _ => map, fun _ => streams, fun _ => taps, fun _ => free, fun h => absurd h awake, fun h => absurd h awake,
      fun h => absurd leaves h, fun h => absurd leaves h, fun h => absurd leaves h, fun h => absurd leaves h⟩, ?_⟩
    exact latches_congr (latches_one latch) fun f => by cases f <;> simp [oneFlag, stationCauses, leaves]
  · have open_ : ¬ Leaves m t := fun leaves => nomatch mutes.1.symm.trans leaves.1
    obtain ⟨_, rfl, map, streams, taps, free, latch⟩ := enterMuted_takeVerdict m
    rw [← whole] at map streams taps free latch
    refine ⟨⟨fun h => absurd h open_, fun h => absurd h open_, fun h => absurd h open_, fun h => absurd h open_,
      fun _ => map, fun _ => streams, fun _ h => absurd mutes h, fun _ h => absurd mutes h, fun _ => taps, fun _ => free⟩, ?_⟩
    exact latches_congr (latches_one latch) fun f => by cases f <;> simp [oneFlag, stationCauses, mutes]
  · rw [whole] at open_ awake latches ⊢
    exact ⟨⟨fun h => absurd h open_, fun h => absurd h open_, fun h => absurd h open_, fun h => absurd h open_,
      fun h => absurd h awake, fun h => absurd h awake, fun _ _ => rfl, fun _ _ => rfl, fun _ => rfl, fun _ => rfl⟩, latches⟩

end Sys2Proof.Proofs
end

section
/-! CLAIM. O31, O32, O35: the slot map, the streams and the events at a boundary. -/

namespace Sys2Proof.Proofs

open Sys2Proof Sys2Proof.Machine Sys2Proof.Safety

theorem StationTakes.noteChanges {m t : State} (h : StationTakes m t) (u : State) : StationTakes m (State.noteChanges u t) := by
  obtain ⟨h1, h2, h3, h4, h5, h6, h7, h8, h9, h10⟩ := h
  exact ⟨h1, h2, h3, h4, h5, h6, h7, h8, h9, h10⟩

/-- The causes of a boundary, from its three parts. -/
def causesAtBoundary (s m t : State) (err : Bool) : Flag → Bool :=
  fun f => boundaryCauses s err f || (stationCauses m t f || changeFlags s t f)

/-- A boundary: `m` is what station control finds, and `t` the state after the event. -/
theorem exec_boundary_reached {s : State} {kind : BoundaryKind} {c : Instr} (takes : TakesBoundary s kind c) :
    ∃ m t, BoundaryReached s (cutShort s (boundaryReception c)) m ∧ StationTakes m t ∧
      Latches s t (causesAtBoundary s m t (cutShort s (boundaryReception c))) ∧ exec c s = .next t := by
  have reached := beforeStation_reached s kind c
  have ran : exec c s = .next (State.noteChanges (boundaryState s c) (State.stationBoundary kind
      (beforeStation kind (boundaryState s c)).station.state (beforeStation kind (boundaryState s c)))) := by
    rw [exec_boundary takes, boundary_eq, beforeStation_state, state_of_view (boundaryState_view s c), State.changing]
  obtain ⟨station, latches⟩ := stationBoundary_takes kind (beforeStation kind (boundaryState s c))
  have visible (t : State) (f : Flag) : changeFlags (boundaryState s c) t f = changeFlags s t f := by
    cases f <;> simp only [changeFlags, (boundaryState_frame s c).1]
  generalize beforeStation kind (boundaryState s c) = m at reached ran station latches
  generalize State.stationBoundary kind m.station.state m = t at ran station latches
  refine ⟨m, _, reached, station.noteChanges _, ?_, ran⟩
  refine latches_congr (latches_trans reached.latches (latches_noteChanges latches)) fun f => ?_
  rw [causesAtBoundary, visible]
  cases f <;> rfl

/-! ### The slot map -/

/-- Settles O31: the boundary ages and detaches, and station control detaches all own entries or clears the map. -/
theorem boundaryAgesMap : Obligations.BoundaryAgesMap := by
  intro s kind c takes
  obtain ⟨m, t, reached, station, -, ran⟩ := exec_boundary_reached takes
  have leaves : Leaves s t ↔ Leaves m t := by rw [Leaves, Leaves, reached.station]
  have mutes : Mutes s t ↔ Mutes m t := by rw [Mutes, Mutes, reached.station]
  have own : m.own = s.own := by rw [State.own, reached.setup]; rfl
  refine ⟨_, ran, fun h => station.leaves_map (leaves.mp h), fun h k => ?_⟩
  have open_ : ¬ Leaves m t := fun l => h (leaves.mpr l)
  have map : t.map = (s.map.boundary s.setup.leaseLimit).detach s.own fun n => decide (Mutes s t ∨ ReachesCloseLimit s n) := by
    by_cases muted : Mutes m t
    · rw [station.mutes_map muted, reached.map, own, map_detach_detach]
      simp [mutes.mpr muted]
    · rw [station.stays_map open_ muted, reached.map]
      have awake : ¬ Mutes s t := fun mu => muted (mutes.mp mu)
      simp only [awake, false_or]
  rw [map, detach_get, boundary_get]
  rfl

/-! ### The streams -/

/-- R89. -/
theorem muted_eq (st : Stream) : st.muted = { st with
    state := if StreamIsOpen st then .claiming else .closed, held := 0, pending := 0 } := by
  unfold Stream.muted StreamIsOpen
  cases st.state <;> rfl

/-- R77, R88: a boundary opens no stream, and takes one out of the open states never. -/
theorem boundaryStream_isOpen (s : State) (n : StreamNo) : StreamIsOpen (boundaryStream s n) ↔ StreamIsOpen s.streams[n] := by
  by_cases reaches : ReachesCloseLimit s n
  · have here : (boundaryStream s n).state = .closed := if_pos reaches
    exact iff_of_false (by simp [StreamIsOpen, here]) (by rw [StreamIsOpen, reaches.1]; simp)
  · have here : (boundaryStream s n).state = (reportedStream (confirmedTo s n) (lapsedTo s n) s.streams[n]).state :=
      if_neg reaches
    rw [StreamIsOpen, here, reportedStream]
    dsimp only
    by_cases isOpen : StreamIsOpen s.streams[n]
    · split
      · exact iff_of_true (derivedState_open _ _ s.streams[n]) isOpen
      · exact Iff.rfl
    · rw [if_neg fun h => isOpen h.1]

/-- R85, R86: the lists and the state of a stream that the boundary does not close. -/
theorem boundaryStream_lists {s : State} {n : StreamNo} (h : ¬ ReachesCloseLimit s n) :
    (boundaryStream s n).held = (s.streams[n].held ||| confirmedTo s n) &&& ~~~lapsedTo s n ∧
    (boundaryStream s n).pending = s.streams[n].pending &&& ~~~(confirmedTo s n ||| lapsedTo s n) ∧
    (boundaryStream s n).state = if StreamIsOpen s.streams[n] ∧ (confirmedTo s n ≠ 0 ∨ lapsedTo s n ≠ 0)
      then derivedState (boundaryStream s n).held s.streams[n].wanted else s.streams[n].state := by
  simp only [boundaryStream, if_neg h, reportedStream, and_self]

/-- R69, R88: a stream that the boundary closes. -/
theorem boundaryStream_closed {s : State} {n : StreamNo} (h : ReachesCloseLimit s n) :
    (boundaryStream s n).state = .closed ∧ (boundaryStream s n).held = 0 ∧ (boundaryStream s n).pending = 0 := by
  simp only [boundaryStream, if_pos h, and_self]

/-- Settles O32: the boundary's middle, and then entry to OFFLINE, entry to MUTED, or nothing more. -/
theorem boundaryMovesSlots : Obligations.BoundaryMovesSlots := by
  intro s kind c takes
  obtain ⟨m, t, reached, station, -, ran⟩ := exec_boundary_reached takes
  have leaves : Leaves s t ↔ Leaves m t := by rw [Leaves, Leaves, reached.station]
  have mutes : Mutes s t ↔ Mutes m t := by rw [Mutes, Mutes, reached.station]
  have buffers : m.sumStreams Stream.buffers = s.sumStreams Stream.buffers :=
    sumStreams_congr fun n => by rw [reached.streams]; rfl
  refine ⟨_, ran, ?_, fun n => ?_⟩
  · by_cases left : Leaves s t
    · rw [if_pos left, station.leaves_free (leaves.mp left), reached.freeBuffers, buffers]
    · rw [if_neg left, station.stays_free (fun l => left (leaves.mpr l)), reached.freeBuffers, Nat.add_zero]
  by_cases left : Leaves s t
  · have awake : ¬ Mutes s t := fun mu => nomatch left.1.symm.trans mu.1
    have here : t.streams[n] = (boundaryStream s n).offline := by rw [station.leaves_stream (leaves.mp left), reached.streams]
    rw [offline_eq] at here
    rw [if_pos left, if_pos left]
    refine ⟨by rw [here]; rfl, lapsedTo s n, confirmedTo s n, has_lapsedTo s n, has_confirmedTo s n, ?_⟩
    rw [here]
    exact ⟨rfl, fun h => absurd left h, fun _ => ⟨rfl, rfl, rfl⟩, fun h => absurd h awake⟩
  have open_ : ¬ Leaves m t := fun l => left (leaves.mpr l)
  rw [if_neg left, if_neg left]
  by_cases muted : Mutes s t
  · have here : t.streams[n] = (boundaryStream s n).muted := by rw [station.mutes_stream (mutes.mp muted), reached.streams]
    rw [muted_eq] at here
    refine ⟨by rw [here]; rfl, lapsedTo s n, confirmedTo s n, has_lapsedTo s n, has_confirmedTo s n, ?_⟩
    rw [here]
    refine ⟨rfl, fun _ h => absurd muted h, fun h => ⟨?_, rfl, rfl⟩, fun _ => ⟨rfl, rfl, ?_⟩⟩
    · rw [if_neg]
      intro isOpen
      have closes := (boundaryStream_closed (h.resolve_left left)).1
      simp only [StreamIsOpen, closes, reduceCtorEq, or_self] at isOpen
    · simp only [boundaryStream_isOpen]
  · have here : t.streams[n] = boundaryStream s n := by
      rw [station.stays_stream open_ fun mu => muted (mutes.mpr mu), reached.streams]
    refine ⟨by rw [here]; rfl, lapsedTo s n, confirmedTo s n, has_lapsedTo s n, has_confirmedTo s n, ?_⟩
    rw [here]
    exact ⟨rfl, fun _ _ stays => boundaryStream_lists stays,
      fun h => boundaryStream_closed (h.resolve_left left), fun h => absurd h muted⟩

/-! ### The events -/

/-- R28, R41: a tap whose publisher is left without an entry. -/
theorem goesStale_boundary (s : State) (u : TapNo) : s.taps[u].goesStale s.map (s.map.boundary s.setup.leaseLimit) = true ↔
    s.taps[u].state = .live ∧ GoneAtBoundary s (s.taps[u].source, s.taps[u].sourceStream) := by
  generalize s.taps[u] = tap
  have kept (k : Slot) : (s.map.boundary s.setup.leaseLimit)[k].state.publisher = some (tap.source, tap.sourceStream) ↔
      s.map[k].state.publisher = some (tap.source, tap.sourceStream) ∧ ¬ Lapses s k := by
    rw [boundary_get, publisher_age, ← lapseDue_iff, State.lapseDue]
    split
    · next lapses => exact iff_of_false nofun fun h => h.2 lapses
    · next stays => exact (and_iff_left stays).symm
  simp only [goesStale_iff, TapGone, ne_eq, kept, GoneAtBoundary, not_and, not_not]
  refine and_congr_right fun _ => ⟨fun ⟨⟨k, had, lost⟩, all⟩ => ⟨⟨k, lost had, had⟩, all⟩,
    fun ⟨⟨k, lapses, had⟩, all⟩ => ⟨⟨k, had, fun _ => lapses⟩, all⟩⟩

/-- Settles O35: the causes of the boundary's middle, of station control, and of the changes that both have made. -/
theorem boundaryLatchesEvents : Obligations.BoundaryLatchesEvents := by
  intro s kind c takes
  obtain ⟨m, t, reached, station, latches, ran⟩ := exec_boundary_reached takes
  have leaves : Leaves m t ↔ Leaves s t := by rw [Leaves, Leaves, reached.station]
  have mutes : Mutes m t ↔ Mutes s t := by rw [Mutes, Mutes, reached.station]
  refine ⟨t, _, ran, latches, fun f => ?_, fun u => ?_⟩
  · cases f with
    | stale u => simpa [causesAtBoundary, boundaryCauses, stationCauses, changeFlags] using goesStale_boundary s u
    | _ => simp [causesAtBoundary, boundaryCauses, stationCauses, changeFlags, leaves, mutes, reached.station]
  · have stale : causesAtBoundary s m t (cutShort s (boundaryReception c)) (.stale u) =
        s.taps[u].goesStale s.map (s.map.boundary s.setup.leaseLimit) := by
      simp [causesAtBoundary, boundaryCauses, stationCauses, changeFlags]
    have live (h : s.taps[u].goesStale s.map (s.map.boundary s.setup.leaseLimit) = true) : s.taps[u].state = .live :=
      ((goesStale_boundary s u).mp h).1
    rw [stale]
    by_cases left : Leaves s t
    · rw [station.leaves_tap (leaves.mpr left), reached.taps, Tap.offline]
      by_cases off : s.taps[u].state = .off
      · have awake : ¬ s.taps[u].goesStale s.map (s.map.boundary s.setup.leaseLimit) = true := fun h =>
          nomatch off.symm.trans (live h)
        rw [if_neg awake, if_pos off, if_pos off, ← off]
      · rw [if_neg off, if_pos left]
        split <;> rfl
    · rw [station.stays_taps fun l => left (leaves.mp l), reached.taps, if_neg left]
      by_cases gone : s.taps[u].goesStale s.map (s.map.boundary s.setup.leaseLimit) = true
      · rw [if_pos gone, if_pos gone, if_neg (by rw [live gone]; nofun)]
      · rw [if_neg gone, if_neg gone]
        split
        · next off => rw [← off]
        · rfl

end Sys2Proof.Proofs
end

section
/-! SUPPORT. The attempts that every step keeps in agreement: what of the state that is about, and what each operation of
the line unit and the cycle timer makes of it. -/

namespace Sys2Proof.Proofs

open Sys2Proof Sys2Proof.Machine Sys2Proof.Safety

/-! ### What the agreement of the attempts is about -/

/-- The part of the state that `AttemptsAgree` speaks of, with what rests in INITIALISING and OFFLINE. -/
structure AttemptView where
  state    : StationState
  running  : Bool
  inBreak  : Bool
  owed     : Bool
  receiver : Bool
  segment  : Segment
  transmit : Transmit
  txd      : Level
  offer    : Option Announcement
  flying   : StreamNo → Bool

/-- That part of a state. -/
def attemptView (s : State) : AttemptView where
  state    := s.station.state
  running  := s.timer.running
  inBreak  := s.timer.breakInProgress
  owed     := s.timer.markOwed
  receiver := s.line.receiver
  segment  := s.line.segment
  transmit := s.line.transmit
  txd      := s.line.txd
  offer    := s.ann.offer
  flying   := fun n => s.streams[n].inFlight.isSome

/-- R128: an attempt may be current. -/
def AttemptView.drives (v : AttemptView) : Bool := v.state == .active || v.state == .leaving

/-- `AttemptsAgree`, and the first three conditions of `RestsQuietly`, of a view. -/
structure AttemptView.Agrees (v : AttemptView) : Prop where
  driving_allowed : v.transmit ≠ .idle → v.drives = true
  owed_allowed    : v.owed = true → v.drives = true
  txd_driven      : v.txd = .dominant → ∃ a, v.transmit = .driving a
  break_alone     : v.inBreak = true → v.transmit = .idle ∨ v.transmit = .driving .brk
  break_closed    : v.inBreak = true → v.segment = .outside
  in_flight       : ∀ n : StreamNo, v.flying n = ((currentAttempt v.transmit).bind dataStream == some n)
  offer_flies     : v.offer = (currentAttempt v.transmit).bind announced
  rests           : v.state = .initialising ∨ v.state = .offline →
    v.running = false ∧ v.inBreak = false ∧ v.receiver = false

/-- The attempts of a state agree, and the timer and the receiver rest where they have to. -/
abbrev LineAgrees (s : State) : Prop := (attemptView s).Agrees

theorem lineAgrees_iff (s : State) : LineAgrees s ↔ AttemptsAgree s ∧
    (Resting s → s.timer.running = false ∧ s.timer.breakInProgress = false ∧ s.line.receiver = false) :=
  ⟨fun ⟨driving, owed, txd, alone, closed, flight, offer, rests⟩ => ⟨⟨driving, owed, txd, alone, closed, flight, offer⟩, rests⟩,
   fun ⟨⟨driving, owed, txd, alone, closed, flight, offer⟩, rests⟩ => ⟨driving, owed, txd, alone, closed, flight, offer, rests⟩⟩

theorem LineAgrees.of_view {s t : State} (h : LineAgrees s) (view : attemptView t = attemptView s) : LineAgrees t := by
  rwa [LineAgrees, view]

/-! ### Views -/

/-- With no attempt current. -/
def AttemptView.quiet (v : AttemptView) : AttemptView :=
  { v with transmit := .idle, txd := .recessive, offer := none, flying := fun _ => false }

/-- R160, R128: OFFLINE. -/
def offlineView : AttemptView where
  state    := .offline
  running  := false
  inBreak  := false
  owed     := false
  receiver := false
  segment  := .outside
  transmit := .idle
  txd      := .recessive
  offer    := none
  flying   := fun _ => false

theorem offlineView_agrees : offlineView.Agrees :=
  ⟨fun h => absurd rfl h, nofun, nofun, nofun, nofun, fun _ => rfl, rfl, fun _ => ⟨rfl, rfl, rfl⟩⟩

namespace AttemptView.Agrees
variable {v : AttemptView} (h : v.Agrees)
include h

theorem quiet : v.quiet.Agrees :=
  ⟨fun h => absurd rfl h, h.owed_allowed, nofun, fun _ => .inl rfl, h.break_closed, fun _ => rfl, rfl, h.rests⟩

/-- No announcement is in flight, and no frame, where the current attempt is neither. -/
theorem nothing_flies (none : (currentAttempt v.transmit).bind dataStream = none)
    (silent : (currentAttempt v.transmit).bind announced = Option.none) :
    v.offer = Option.none ∧ v.flying = fun _ => false :=
  ⟨by rw [h.offer_flies, silent], funext fun n => by rw [h.in_flight, none]; rfl⟩

/-- A view with no attempt current is quiet. -/
theorem quiet_of_idle (idle : v.transmit = .idle) : v.quiet = v := by
  have txd : v.txd = .recessive := by
    cases level : v.txd with
    | recessive => rfl
    | dominant =>
      obtain ⟨a, driving⟩ := h.txd_driven level
      rw [idle] at driving; cases driving
  obtain ⟨offer, flying⟩ := h.nothing_flies (by rw [idle]; rfl) (by rw [idle]; rfl)
  simp only [AttemptView.quiet, ← idle, ← txd, ← offer, ← flying]

/-- The station drives nothing where it may not. -/
theorem idle_of_still (still : v.drives = false) : v.transmit = .idle ∧ v.owed = false := by
  refine ⟨?_, ?_⟩
  · by_contra busy
    rw [h.driving_allowed busy] at still; cases still
  · cases owes : v.owed with
    | false => rfl
    | true => rw [h.owed_allowed owes] at still; cases still

/-- R2, R137: a segment starts with no break in progress. -/
theorem openSegment (quiet : v.inBreak = false) (g : Segment) : { v with segment := g }.Agrees :=
  ⟨h.driving_allowed, h.owed_allowed, h.txd_driven, h.break_alone, fun inBreak => (nomatch quiet.symm.trans inBreak),
    h.in_flight, h.offer_flies, h.rests⟩

/-- R11: no mark is owed any more. -/
theorem owesNothing : { v with owed := false }.Agrees :=
  ⟨h.driving_allowed, nofun, h.txd_driven, h.break_alone, h.break_closed, h.in_flight, h.offer_flies, h.rests⟩

/-- A change of station state outside INITIALISING and OFFLINE that lets the station drive no less. -/
theorem changeState (state : StationState) (drives : v.drives = true → state = .active ∨ state = .leaving)
    (rests : state = .initialising ∨ state = .offline → v.state = .initialising ∨ v.state = .offline) :
    { v with state := state }.Agrees := by
  have allowed (may : v.drives = true) : AttemptView.drives { v with state := state } = true := by
    rcases drives may with rfl | rfl <;> rfl
  exact ⟨fun busy => allowed (h.driving_allowed busy), fun owed => allowed (h.owed_allowed owed), h.txd_driven, h.break_alone,
    h.break_closed, h.in_flight, h.offer_flies, fun rest => h.rests (rests rest)⟩

end AttemptView.Agrees

/-! ### Operations that leave the view -/

theorem attemptView_congr {s t : State} (station : t.station.state = s.station.state)
    (timer : t.timer.running = s.timer.running ∧ t.timer.breakInProgress = s.timer.breakInProgress ∧
      t.timer.markOwed = s.timer.markOwed)
    (line : t.line.receiver = s.line.receiver ∧ t.line.segment = s.line.segment ∧ t.line.transmit = s.line.transmit ∧
      t.line.txd = s.line.txd)
    (offer : t.ann.offer = s.ann.offer) (flying : ∀ n : StreamNo, t.streams[n].inFlight.isSome = s.streams[n].inFlight.isSome) :
    attemptView t = attemptView s := by
  simp only [attemptView, station, timer, line, offer, flying]

section Same
variable (s : State)

@[simp] theorem attemptView_changing (f : State → State) : attemptView (State.changing f s) = attemptView (f s) := rfl
@[simp] theorem attemptView_causes (m : BitVec 66) : attemptView (State.causes m s) = attemptView s := rfl
@[simp] theorem attemptView_latches (f : Flag) : attemptView (State.latches f s) = attemptView s := rfl
@[simp] theorem attemptView_atRun (run : Nat) : attemptView (State.atRun run s) = attemptView s := rfl
@[simp] theorem attemptView_noteRun (rx : Option Stretch) : attemptView (State.noteRun rx s) = attemptView s := rfl
@[simp] theorem attemptView_atPosition (p : Nat) : attemptView (State.atPosition p s) = attemptView s := rfl
@[simp] theorem attemptView_clearLostNote : attemptView (State.clearLostNote s) = attemptView s := rfl
@[simp] theorem attemptView_endFrame : attemptView (State.endFrame s) = attemptView s := rfl
@[simp] theorem attemptView_assembled (a : Attempt) (bit : Nat) : attemptView (State.assembled a bit s) = attemptView s := rfl
@[simp] theorem attemptView_setQueue (q : List Record) : attemptView (State.setQueue q s) = attemptView s := rfl
@[simp] theorem attemptView_appendRecords (rs : List Record) : attemptView (State.appendRecords rs s) = attemptView s := rfl
@[simp] theorem attemptView_changeMap (f : SlotMap → SlotMap) : attemptView (State.changeMap f s) = attemptView s := rfl
@[simp] theorem attemptView_setMap (m : SlotMap) : attemptView { s with map := m } = attemptView s := rfl
@[simp] theorem attemptView_takeVerdict : attemptView s.takeVerdict = attemptView s := rfl
theorem attemptView_updateStreams {f : StreamNo → Stream → Stream}
    (keeps : ∀ n st, (f n st).inFlight.isSome = st.inFlight.isSome) :
    attemptView (State.updateStreams f s) = attemptView s :=
  attemptView_congr rfl ⟨rfl, rfl, rfl⟩ ⟨rfl, rfl, rfl, rfl⟩ rfl fun n => by rw [State.updateStreams_get, keeps]

theorem attemptView_modifyStream (n : StreamNo) {f : Stream → Stream}
    (keeps : ∀ st, (f st).inFlight.isSome = st.inFlight.isSome) :
    attemptView (State.modifyStream n f s) = attemptView s := by
  refine attemptView_congr rfl ⟨rfl, rfl, rfl⟩ ⟨rfl, rfl, rfl, rfl⟩ rfl fun m => ?_
  rw [State.modifyStream, vector_set_get]
  split
  · next here => rw [keeps, here]
  · rfl

@[simp] theorem attemptView_rxError : attemptView (State.rxError s) = attemptView s := by
  rw [rxError_eq]
  refine attemptView_congr rfl ?_ ⟨rfl, rfl, rfl, rfl⟩ rfl fun _ => rfl
  simp only [errorTimer]
  split <;> exact ⟨rfl, rfl, rfl⟩

@[simp] theorem attemptView_beginCharacter (r : Reception) : attemptView (State.beginCharacter r s) = attemptView s := by
  unfold State.beginCharacter
  split
  · split
    · rfl
    · exact attemptView_rxError s
    · rfl
  · rfl

@[simp] theorem attemptView_noteReception (rx : Option Stretch) : attemptView (State.noteReception rx s) = attemptView s := by
  unfold State.noteReception
  split
  · rfl
  · dsimp only
    split <;> exact attemptView_beginCharacter s _

@[simp] theorem attemptView_noCharacter : attemptView (State.noCharacter s) = attemptView s := by
  unfold State.noCharacter; split <;> rfl

@[simp] theorem attemptView_closeSegment (rx : Option Stretch) : attemptView (State.closeSegment rx s) = attemptView s := by
  simp [State.closeSegment, apply_ite attemptView]

@[simp] theorem attemptView_settleMark : attemptView (State.settleMark s) = attemptView s := by
  unfold State.settleMark; split <;> rfl

@[simp] theorem attemptView_takeMark (sender : Nat) : attemptView (State.takeMark sender s) = attemptView s := by
  unfold State.takeMark; split <;> rfl

@[simp] theorem attemptView_rearm : attemptView (State.rearm s) = attemptView s := by
  unfold State.rearm; split <;> rfl

@[simp] theorem attemptView_expire (run : Nat) : attemptView (State.expire run s) = attemptView s := by
  unfold State.expire; split <;> rfl

@[simp] theorem attemptView_runOver (run : Nat) : attemptView (State.runOver run s) = attemptView s := by
  unfold State.runOver; split <;> rfl

@[simp] theorem attemptView_runSettled : attemptView (State.runSettled s) = attemptView s := by
  unfold State.runSettled
  split
  · rw [attemptView_rearm]; rfl
  · rfl

@[simp] theorem attemptView_tapTake (f : SlotFrame) : attemptView (State.tapTake f s) = attemptView s := by
  have account (t : TapNo) (seq next : Byte) (u : State) : attemptView (State.tapAccount t seq next u) = attemptView u := by
    simp only [State.tapAccount]; split <;> rfl
  have queue (t : TapNo) (frame : RxFrame) (u : State) : attemptView (State.tapQueue t frame u) = attemptView u := by
    simp only [State.tapQueue]; split_ifs <;> rfl
  unfold State.tapTake
  split
  · rfl
  · split
    · rw [queue, account]
    · rw [account]

theorem lose_inFlight (k : SlotSet) (st : Stream) : (st.lose k).inFlight = st.inFlight := by rw [lose_eq]

@[simp] theorem attemptView_reportLoss (r : Option LossReport) : attemptView (State.reportLoss r s) = attemptView s := by
  cases r with
  | none => rfl
  | some r => exact attemptView_modifyStream s _ fun st => by rw [lose_inFlight]

@[simp] theorem attemptView_claimOnOwn (slots : SlotSet) : attemptView (State.claimOnOwn slots s) = attemptView s := by
  simp only [State.claimOnOwn]; split <;> rfl

theorem attemptView_discardQueue (n : StreamNo) : attemptView (State.discardQueue n s) = attemptView s :=
  attemptView_modifyStream (State.returnBuffers s.streams[n].queue.length s) n fun _ => rfl

theorem attemptView_flush (n : StreamNo) : attemptView (State.flush n s) = attemptView s :=
  (attemptView_modifyStream _ n fun st => by simp [Stream.discardInFlight]).trans (attemptView_discardQueue s n)

@[simp] theorem attemptView_beginClose (n : StreamNo) : attemptView (State.beginClose n s) = attemptView s := by
  simp only [State.beginClose]
  split
  all_goals
    refine (attemptView_modifyStream _ n ?_).trans (attemptView_flush s n)
    intro st
    rfl

@[simp] theorem attemptView_checkRecords : attemptView s.checkRecords = attemptView s := by
  simp only [State.checkRecords]
  exact attemptView_updateStreams (State.setQueue _ s) fun n st => by split <;> rfl

end Same

theorem attemptView_closeStreams (ns : List StreamNo) (s : State) : attemptView (State.closeStreams ns s) = attemptView s := by
  induction ns generalizing s with
  | nil => rfl
  | cons n ns ih => exact (ih _).trans (attemptView_beginClose s n)

/-! ### Changes of station state -/

theorem attemptView_enterOffline (s : State) : attemptView s.enterOffline = offlineView := by
  have landed (n : StreamNo) : s.enterOffline.streams[n].inFlight = none := by
    rw [enterOffline_stream, offline_eq]
  simp only [attemptView, landed]
  rfl

theorem leaveEnds_agrees (s : State) : LineAgrees s.leaveEnds := by
  show (attemptView s.enterOffline).Agrees
  rw [attemptView_enterOffline]; exact offlineView_agrees

theorem LineAgrees.leaveIfDone {s : State} (h : LineAgrees s) : LineAgrees s.leaveIfDone := by
  unfold State.leaveIfDone
  split
  · exact leaveEnds_agrees s
  · exact h

theorem clash_agrees (s : State) : LineAgrees s.clash := by
  simp only [LineAgrees, State.clash, attemptView_latches, attemptView_enterOffline]
  exact offlineView_agrees

/-! ### Attempts that end -/

theorem returnedStream_inFlight (st : Stream) : (returnedStream st).inFlight = none := by
  unfold returnedStream
  split
  · next landed => exact landed
  · split <;> rfl

theorem lostClaimStream_inFlight (own : Nat) (st : Stream) : (lostClaimStream own st).inFlight = st.inFlight := by
  unfold lostClaimStream
  split_ifs <;> rfl

/-- What ends an attempt, as `AttemptFails` says, and changes nothing else but the lost note. -/
structure AttemptEnds (o : Option Provisional) (a : Attempt) (s t : State) : Prop where
  fails : AttemptFails o a s t
  whole : t = { s with
    line := { s.line with transmit := .idle, txd := .recessive, lostNote := t.line.lostNote }, station := t.station
    ann := t.ann, streams := t.streams, freeBuffers := t.freeBuffers }

theorem attemptReturns_ends (a : Attempt) (s : State) : AttemptEnds none a s (State.attemptReturns a s) := by
  obtain ⟨fails, whole⟩ := attemptReturns_spec a s
  generalize State.attemptReturns a s = t at fails whole ⊢
  exact ⟨fails, by rw [whole]⟩

theorem attemptFault_ends (a : Attempt) (s : State) : AttemptEnds (some .fault) a s (State.attemptFault a s) := by
  obtain ⟨fails, whole⟩ := attemptFault_spec a s
  generalize State.attemptFault a s = t at fails whole ⊢
  exact ⟨fails, by rw [whole]⟩

/-- R153: a LOST attempt sets no fault mark. -/
theorem lost_no_fault (s : State) : s.station = { s.station with
    faultMark := s.station.faultMark || ((some Provisional.lost == some .fault) && s.mayDrive) } := by
  rw [show (some Provisional.lost == some .fault) = false from rfl, Bool.false_and, Bool.or_false]

/-- R62, R133, R136: an attempt that ends LOST. -/
theorem attemptLost_ends (a : Attempt) (s : State) : AttemptEnds (some .lost) a s (State.attemptLost a s) := by
  cases a with
  | slotFrame k f =>
    obtain ⟨⟨line, station, ann, streams, buffers⟩, whole⟩ :=
      attemptReturns_ends (.slotFrame k f) { s with line := { s.line with lostNote := true } }
    have same : State.attemptLost (.slotFrame k f) s =
      State.attemptReturns (.slotFrame k f) { s with line := { s.line with lostNote := true } } := rfl
    rw [same]
    generalize State.attemptReturns _ _ = t at *
    exact ⟨⟨line, station, ann, streams, buffers⟩, whole⟩
  | announcement w c =>
    cases kind : c.kind with
    | claim =>
      have lost : State.attemptLost (.announcement w c) s = { s with
          line := { s.line with transmit := .idle, txd := .recessive }, ann := { s.ann with offer := none }
          streams := s.streams.set c.stream (lostClaimStream s.setup.address s.streams[c.stream]) } := by
        simp only [State.attemptLost, kind, ← loseClaim_eq]; rfl
      rw [lost]
      refine ⟨⟨⟨rfl, rfl⟩, lost_no_fault s, rfl, fun n => ?_, rfl⟩, rfl⟩
      have claims : claimStream (.announcement w c) = some c.stream := by simp [claimStream, announced, kind]
      simp only [claims, vector_set_get, Option.some.injEq, true_and, eq_comm (a := c.stream)]
      by_cases here : n = c.stream
      · subst here; simp [dataStream]
      · simp [here, dataStream]
    | release | object =>
      have lost : State.attemptLost (.announcement w c) s = State.attemptReturns (.announcement w c) s := by
        simp only [State.attemptLost, kind]; rfl
      have none : claimStream (.announcement w c) = none := by simp [claimStream, announced, kind]
      obtain ⟨⟨line, station, ann, streams, buffers⟩, whole⟩ := attemptReturns_ends (.announcement w c) s
      rw [lost]
      refine ⟨⟨line, by rw [station]; simp, ann, fun n => ?_, buffers⟩, whole⟩
      rw [streams, none]; simp
  | brk | mark =>
    refine ⟨⟨⟨rfl, rfl⟩, lost_no_fault s, rfl, fun n => ?_, rfl⟩, rfl⟩
    simp [State.attemptLost, State.endAttempt, State.setTransmit, dataStream, claimStream, announced]

/-- R133: a SETTLING attempt is settled as LOST or FAULT. -/
theorem settle_cases (s : State) :
    State.settle s = s ∨ ∃ o a, currentAttempt s.line.transmit = some a ∧ AttemptEnds o a s (State.settle s) := by
  unfold State.settle
  split
  · next a settling => exact .inr ⟨_, a, by rw [settling]; rfl, attemptLost_ends a s⟩
  · next a settling => exact .inr ⟨_, a, by rw [settling]; rfl, attemptFault_ends a s⟩
  · exact .inl rfl

section Ends
variable {s : State} (h : LineAgrees s) {a : Attempt} (current : currentAttempt s.line.transmit = some a)
include h current

/-- R57, R119: the in-flight frame and the in-flight offer are those of the current attempt. -/
theorem flies_of_current : s.ann.offer = announced a ∧ ∀ n : StreamNo, s.streams[n].inFlight.isSome = (dataStream a == some n) := by
  refine ⟨?_, fun n => ?_⟩
  · have := h.offer_flies
    rw [show (attemptView s).transmit = s.line.transmit from rfl, current] at this
    exact this
  · have := h.in_flight n
    rw [show (attemptView s).transmit = s.line.transmit from rfl, current] at this
    exact this

theorem AttemptEnds.view {o : Option Provisional} {t : State} (ends : AttemptEnds o a s t) :
    attemptView t = (attemptView s).quiet := by
  obtain ⟨⟨⟨idle, released⟩, station, ann, streams, -⟩, whole⟩ := ends
  obtain ⟨offer, flight⟩ := flies_of_current h current
  have none : t.ann.offer = none := by
    rw [ann, offer]
    cases announced a <;> rfl
  have landed (n : StreamNo) : t.streams[n].inFlight.isSome = false := by
    rw [streams]
    split
    · rw [returnedStream_inFlight]; rfl
    · next other =>
      have : s.streams[n].inFlight.isSome = false := by rw [flight]; simpa using other
      split
      · rw [lostClaimStream_inFlight]; exact this
      · exact this
  have timer : t.timer = s.timer := by rw [whole]
  have receiver : t.line.receiver = s.line.receiver := by rw [whole]
  have segment : t.line.segment = s.line.segment := by rw [whole]
  simp only [attemptView, AttemptView.quiet, idle, released, none, landed, timer, receiver, segment, station]

end Ends

theorem settle_view {s : State} (h : LineAgrees s) :
    attemptView s.settle = attemptView s ∨ attemptView s.settle = (attemptView s).quiet := by
  rcases settle_cases s with same | ⟨o, a, current, ends⟩
  · exact .inl (by rw [same])
  · exact .inr (ends.view h current)

theorem LineAgrees.settle {s : State} (h : LineAgrees s) : LineAgrees s.settle := by
  rcases settle_view h with same | ended
  · exact h.of_view same
  · rw [LineAgrees, ended]; exact h.quiet

end Sys2Proof.Proofs
end

section
/-! SUPPORT. The attempts agree as one begins, and after a boundary. -/

namespace Sys2Proof.Proofs

open Sys2Proof Sys2Proof.Machine Sys2Proof.Safety

/-! ### Attempts that begin -/

namespace AttemptView.Agrees
variable {v : AttemptView} (h : v.Agrees)
include h

/-- R131: an attempt is handed over. -/
theorem handOver (drives : v.drives = true) (calm : v.inBreak = false) (a : Attempt) :
    { v with transmit := .waiting a, txd := .recessive, offer := announced a, flying := fun n => dataStream a == some n }.Agrees :=
  ⟨fun _ => drives, h.owed_allowed, nofun, fun inBreak => (nomatch calm.symm.trans inBreak), h.break_closed, fun _ => rfl, rfl,
    h.rests⟩

/-- R9, R16: a break is handed over and driven. -/
theorem handBreak (idle : v.transmit = .idle) (drives : v.drives = true) :
    { v with owed := true, transmit := .driving .brk, txd := .dominant }.Agrees := by
  obtain ⟨offer, flying⟩ := h.nothing_flies (by rw [idle]; rfl) (by rw [idle]; rfl)
  exact ⟨fun _ => drives, fun _ => drives, fun _ => ⟨_, rfl⟩, fun _ => .inr rfl, h.break_closed, fun n => by
    rw [flying]; rfl, by rw [offer]; rfl, h.rests⟩

/-- R5: the new cycle's mark tail. -/
theorem cycleOpens (g : Segment) : { v with inBreak := false, segment := g }.Agrees :=
  ⟨h.driving_allowed, h.owed_allowed, h.txd_driven, nofun, nofun, h.in_flight, h.offer_flies,
    fun rest => ⟨(h.rests rest).1, rfl, (h.rests rest).2.2⟩⟩

/-- R131, R132: an attempt that is current goes on with another level on TXD. -/
theorem goesOn {x : Transmit} {txd : Level} (same : currentAttempt x = currentAttempt v.transmit)
    (driven : txd = .dominant → ∃ a, x = .driving a) (calm : v.inBreak = false) (busy : v.transmit ≠ .idle) :
    { v with transmit := x, txd := txd }.Agrees :=
  ⟨fun _ => h.driving_allowed busy, h.owed_allowed, driven, fun inBreak => (nomatch calm.symm.trans inBreak), h.break_closed,
    fun n => (h.in_flight n).trans (by rw [same]), h.offer_flies.trans (by rw [same]), h.rests⟩

end AttemptView.Agrees

/-! ### Boundaries -/

/-- R134: after the end of the own break nothing is current. -/
theorem endBreak_view {s : State} (h : LineAgrees s) (still : s.line.transmit = .idle ∨ s.line.transmit = .driving .brk) :
    attemptView s.endBreak = (attemptView s).quiet := by
  unfold State.endBreak
  split
  · next driving =>
    have view : (attemptView s).transmit = .driving .brk := driving
    obtain ⟨offer, flying⟩ := h.nothing_flies (by rw [view]; rfl) (by rw [view]; rfl)
    show { attemptView s with transmit := .idle, txd := .recessive } = _
    rw [AttemptView.quiet, ← offer, ← flying]
  · next busy => exact (h.quiet_of_idle (still.resolve_right busy)).symm

/-- R10: the mark character is handed over. -/
theorem handMark_agrees {s : State} (h : LineAgrees s) (calm : s.timer.breakInProgress = false)
    (offer : (attemptView s).offer = none) (flying : (attemptView s).flying = fun _ => false) :
    LineAgrees s.handMark ∧ (attemptView s.handMark).offer = none ∧ (attemptView s.handMark).flying = fun _ => false := by
  rw [State.handMark]
  split
  · next owed =>
    refine ⟨?_, offer, flying⟩
    have handed := h.owesNothing.handOver (h.owed_allowed owed) calm (.mark s.own)
    simp only [attemptView] at offer flying
    simp only [LineAgrees, attemptView, State.handOver, State.setTransmit, offer, flying]
    exact handed
  · exact ⟨h, offer, flying⟩

/-- R5, R10: the new cycle, with the mark waiting or nothing current. -/
theorem openCycle_agrees {s : State} (h : LineAgrees s) (still : s.line.transmit = .idle ∨ s.line.transmit = .driving .brk)
    (kind : BoundaryKind) : LineAgrees (State.openCycle kind s) ∧
      (attemptView (State.openCycle kind s)).offer = none ∧ (attemptView (State.openCycle kind s)).flying = fun _ => false := by
  have closed : attemptView (State.closeSegment none s.endBreak) = (attemptView s).quiet := by
    rw [attemptView_closeSegment, endBreak_view h still]
  simp only [State.openCycle]
  generalize State.closeSegment none s.endBreak = w at closed
  generalize opens : State.openSegment Segment.markTail _ = x
  have view : attemptView x = { (attemptView s).quiet with inBreak := false, segment := .markTail } := by
    rw [← opens, ← closed]; rfl
  have agrees : LineAgrees x := by rw [LineAgrees, view]; exact h.quiet.cycleOpens _
  have calm : (attemptView x).inBreak = false := by rw [view]
  have offer : (attemptView x).offer = none := by rw [view]; rfl
  have flying : (attemptView x).flying = fun _ => false := by rw [view]; rfl
  cases kind with
  | synthesized => exact ⟨agrees, offer, flying⟩
  | heard => exact handMark_agrees agrees calm offer flying

/-! R25 to R90: the rest of a boundary is no matter to the attempts. -/

theorem attemptView_ageMap (s : State) : attemptView s.ageMap = attemptView s := by
  simp only [State.ageMap]
  rw [attemptView_changeMap]
  exact attemptView_updateStreams s fun n st => by rw [reported_eq]; rfl

theorem attemptView_releasedSilently (p : StreamNo → Bool) (s : State) :
    attemptView (releasedSilently p s) = attemptView s := by
  generalize released : releasedSilently p s = t
  simp only [releasedSilently] at released
  have each (n : StreamNo) : t.streams[n].inFlight.isSome = s.streams[n].inFlight.isSome := by
    rw [← released]
    simp only [Fin.getElem_fin, Vector.getElem_ofFn, Fin.eta]
    split <;> rfl
  exact attemptView_congr (by rw [← released]) (by simp only [← released, and_self]) (by simp only [← released, and_self])
    (by rw [← released]) each

theorem attemptView_beforeStation (kind : BoundaryKind) (s : State) :
    attemptView (beforeStation kind s) = attemptView (State.openCycle kind s) := by
  have closes (u : State) : attemptView u.countCloses = attemptView u :=
    attemptView_updateStreams u fun n st => by split <;> rfl
  rw [beforeStation, countWaits_eq, releaseOverdue_eq]
  rw [attemptView_causes, attemptView_updateStreams _ fun n st => by rw [counted], attemptView_releasedSilently, closes,
    attemptView_ageMap]

theorem enterMuted_agrees {s : State} (h : LineAgrees s) (flying : (attemptView s).flying = fun _ => false) :
    LineAgrees s.enterMuted := by
  have view : attemptView s.enterMuted = { (attemptView s).quiet with state := .muted, owed := false } := by
    rw [AttemptView.quiet, ← flying, State.enterMuted, attemptView_latches,
      attemptView_updateStreams _ fun n st => by rw [muted_eq]]
    simp only [attemptView, State.endAttempt, State.setTransmit, State.detach]
    rfl
  rw [LineAgrees, view]
  exact ⟨fun h => absurd rfl h, nofun, nofun, fun _ => .inl rfl, h.break_closed, fun _ => rfl, rfl, nofun⟩

/-- R155 to R160: station control at a boundary. -/
theorem stationBoundary_agrees {s : State} (h : LineAgrees s) (flying : (attemptView s).flying = fun _ => false)
    (kind : BoundaryKind) : LineAgrees (State.stationBoundary kind s.station.state s) := by
  cases state : s.station.state with
  | initialising | offline => exact h
  | listening =>
    simp only [State.stationBoundary]
    cases kind with
    | synthesized => exact h
    | heard =>
      dsimp only
      split
      · exact h.changeState .active (fun _ => .inl rfl) fun rest => rest.elim nofun nofun
      · exact h
  | active =>
    simp only [State.stationBoundary]
    split
    · exact enterMuted_agrees (h.of_view (attemptView_takeVerdict s)) flying
    · exact h
  | leaving =>
    simp only [State.stationBoundary]
    split
    · exact leaveEnds_agrees _
    · exact LineAgrees.leaveIfDone (h.of_view (attemptView_takeVerdict s))
  | muted =>
    have still : (attemptView s).drives = false := by simp [AttemptView.drives, attemptView, state]
    simp only [State.stationBoundary]
    split
    · exact h.changeState .listening (fun drives => nomatch still.symm.trans drives) fun rest => rest.elim nofun nofun
    · exact h

/-- R5, R14: a boundary. -/
theorem boundary_agrees {s : State} (h : LineAgrees s) (still : s.line.transmit = .idle ∨ s.line.transmit = .driving .brk)
    (kind : BoundaryKind) : LineAgrees (State.boundary kind s) := by
  obtain ⟨agrees, -, flying⟩ := openCycle_agrees h still kind
  rw [← attemptView_beforeStation] at flying
  have taken : (beforeStation kind s).station.state = s.station.state := by
    rw [beforeStation_station]
    exact state_of_view (rangeView_openCycle s kind)
  have moved := stationBoundary_agrees (agrees.of_view (attemptView_beforeStation kind s)) flying kind
  rw [taken] at moved
  rw [boundary_eq]
  exact moved

end Sys2Proof.Proofs
end

section
/-! SUPPORT. The attempts agree after every event of the cycle, of a segment, of an attempt and of a reception. -/

namespace Sys2Proof.Proofs

open Sys2Proof Sys2Proof.Machine Sys2Proof.Safety

/-! ### Cycle events -/

theorem current_of_cut {x : Transmit} {a : Attempt} (cuts : cutAttempt x = some a) : currentAttempt x = some a := by
  cases x with
  | driving b =>
    cases b with
    | brk => exact nomatch cuts
    | _ => exact cuts
  | idle => exact nomatch cuts
  | _ => exact cuts

/-- R6, R133: a break leaves at most the station's own break. -/
theorem cut_agrees {s : State} (h : LineAgrees s) :
    LineAgrees s.cut ∧ (s.cut.line.transmit = .idle ∨ s.cut.line.transmit = .driving .brk) ∧
      s.cut.timer = s.timer ∧ s.cut.station = s.station := by
  rw [cut_eq]
  cases cuts : cutAttempt s.line.transmit with
  | none =>
    refine ⟨h, ?_, rfl, rfl⟩
    cases transmit : s.line.transmit with
    | idle => exact .inl transmit
    | driving a =>
      cases a with
      | brk => exact .inr transmit
      | _ => rw [transmit] at cuts; exact nomatch cuts
    | _ => rw [transmit] at cuts; exact nomatch cuts
  | some a =>
    have ends := attemptReturns_ends a s
    have view := ends.view h (current_of_cut cuts)
    refine ⟨?_, .inl (congrArg AttemptView.transmit view), ?_, ?_⟩
    · show LineAgrees (State.attemptReturns a s)
      rw [LineAgrees, view]; exact h.quiet
    · show (State.attemptReturns a s).timer = _
      rw [ends.whole]
    · show (State.attemptReturns a s).station = _
      rw [(attemptReturns_spec a s).2]

theorem breakSegment_view (rx : Option Stretch) (s : State) :
    attemptView (State.breakSegment rx s) = { attemptView s with segment := .outside } := by
  rw [State.breakSegment]
  split
  · rw [← attemptView_rxError s]; rfl
  · rfl

theorem recogniseBreak_agrees {s : State} (h : LineAgrees s) (rx : Option Stretch) : LineAgrees (State.recogniseBreak rx s) := by
  unfold State.recogniseBreak
  split
  · next runs =>
    obtain ⟨cut, still, timer, station⟩ := cut_agrees h
    have running : s.timer.running = true := by
      simp only [Bool.and_eq_true] at runs; exact runs.1
    have closed : attemptView (State.settleMark (State.breakSegment rx s.cut)) =
        { attemptView s.cut with segment := .outside } := by rw [attemptView_settleMark, breakSegment_view]
    generalize State.settleMark (State.breakSegment rx s.cut) = w at closed ⊢
    show AttemptView.Agrees { attemptView w with inBreak := true }
    rw [closed]
    refine ⟨cut.driving_allowed, cut.owed_allowed, cut.txd_driven, fun _ => still, fun _ => rfl, cut.in_flight,
      cut.offer_flies, fun rest => ?_⟩
    have stopped := (cut.rests rest).1
    rw [show (attemptView s.cut).running = s.cut.timer.running from rfl, timer, running] at stopped
    cases stopped
  · exact h

theorem lineHeld_view (s : State) : attemptView s.lineHeld = attemptView s := by
  unfold State.lineHeld; split <;> rfl

/-- R9, R131: a break is handed over to an idle line unit. -/
theorem handBreak_agrees {s : State} (h : LineAgrees s) (drives : s.mayDrive = true) : LineAgrees s.handBreak := by
  by_cases idle : s.line.transmit = .idle
  · rw [handBreak_idle idle]; exact h.handBreak idle drives
  · rw [handBreak_busy idle]; exact h

theorem loneStartReport_agrees {s : State} (h : LineAgrees s) (listening : s.station.state = .listening) :
    LineAgrees s.loneStartReport := by
  have still : (attemptView s).drives = false := by simp [AttemptView.drives, attemptView, listening]
  have active := h.changeState .active (fun drives => nomatch still.symm.trans drives) fun rest => rest.elim nofun nofun
  exact handBreak_agrees (s := State.latches .joined { s with
    station := { s.station with state := .active, startedTrunk := true }
    timer := { s.timer with loneStart := 0 } }) active rfl

/-- A boundary that is due finds nothing current but the station's own break. -/
theorem still_of_due {s : State} (h : LineAgrees s) {kind : BoundaryKind} (due : BoundaryDue s kind) :
    s.line.transmit = .idle ∨ s.line.transmit = .driving .brk := by
  cases kind with
  | heard => exact h.break_alone due.2
  | synthesized =>
    have muted : s.station.state = .muted := due.2.2.2
    exact .inl (h.idle_of_still (by simp [AttemptView.drives, attemptView, muted])).1

theorem markTimerExpiry_agrees {s : State} (h : LineAgrees s) (run : Nat) (rx : Option Stretch) :
    LineAgrees (State.markTimerExpiry run rx s) := by
  unfold State.markTimerExpiry
  split
  · dsimp only
    have expired : LineAgrees (State.expire run s) := h.of_view (attemptView_expire s run)
    have state : (State.expire run s).station = s.station := by rw [expire_eq]
    split
    · split
      · next active => exact handBreak_agrees expired (by simp [State.mayDrive, state, active])
      · next leaving => exact handBreak_agrees expired (by simp [State.mayDrive, state, leaving])
      · next muted =>
        have still : (attemptView (State.expire run s)).drives = false := by
          simp [AttemptView.drives, attemptView, state, muted]
        have noted := expired.of_view (attemptView_noteReception _ rx)
        refine boundary_agrees noted (.inl ?_) _
        rw [noteReception_transmit]
        exact (expired.idle_of_still still).1
      · exact expired
    · exact expired
  · exact h

theorem loneStart_agrees {s : State} (h : LineAgrees s) (run : Nat) : LineAgrees (State.loneStart run s) := by
  unfold State.loneStart
  split
  · next due =>
    have listening : s.station.state = .listening := by
      simp only [Bool.and_eq_true, beq_iff_eq] at due
      exact due.1.1
    dsimp only
    split
    · exact loneStartReport_agrees (h.of_view (by simp)) listening
    · exact h
  · exact h

theorem loneStartSettled_agrees {s : State} (h : LineAgrees s) : LineAgrees s.loneStartSettled := by
  unfold State.loneStartSettled
  split
  · next waits =>
    simp only [State.loneStartWaits, Bool.and_eq_true, beq_iff_eq] at waits
    exact loneStartReport_agrees h waits.1
  · exact h

theorem shortRunEnd_agrees {s : State} (h : LineAgrees s) (run : Nat) (stopBit : Bool) :
    LineAgrees (State.shortRunEnd run stopBit s) := by
  simp only [State.shortRunEnd]
  split
  · have ended := h.settle.of_view (t := State.runSettled (State.runOver run (State.atRun 0
        (if framingRun run stopBit = true then State.rxError s.settle else s.settle)))) (by simp [apply_ite attemptView])
    exact loneStartSettled_agrees ended
  · exact h

theorem boundaryWith_agrees {s : State} (h : LineAgrees s) (p : BoundaryKind → Bool) : LineAgrees (State.boundaryWith p s) := by
  unfold State.boundaryWith
  split
  · next kind due =>
    split
    · exact boundary_agrees h (still_of_due h ((boundaryDue_eq_some s kind).mp due).1) _
    · exact h
  · exact h

/-! ### Segment starts -/

theorem startSegment_view (g : Segment) (position : Nat) (rx : Option Stretch) (s : State) :
    attemptView (State.startSegment g position rx s) = { attemptView s.settle with segment := g } := by
  have before : attemptView (State.noteRun rx (State.settleMark (State.closeSegment rx s.settle))) = attemptView s.settle := by
    simp
  rw [← before]; rfl

/-- R2: no segment starts while a break is in progress. -/
theorem quiet_of_reportsStart {position : Nat} {s : State} (reported : State.reportsStart position s = true) :
    s.timer.running = true ∧ s.timer.breakInProgress = false := by
  simp only [State.reportsStart, Bool.and_eq_true, Bool.not_eq_true'] at reported
  exact reported.1

theorem settle_timer (s : State) : s.settle.timer = s.timer ∧ s.settle.station.state = s.station.state := by
  refine ⟨?_, state_of_view (rangeView_settle s)⟩
  rcases settle_cases s with same | ⟨o, a, -, ends⟩
  · rw [same]
  · rw [ends.whole]

theorem startSegment_agrees {s : State} (h : LineAgrees s) (g : Segment) {position : Nat} (rx : Option Stretch)
    (reported : State.reportsStart position s = true) :
    LineAgrees (State.startSegment g position rx s) ∧ (attemptView (State.startSegment g position rx s)).inBreak = false := by
  have calm : (attemptView s.settle).inBreak = false := by
    show s.settle.timer.breakInProgress = false
    rw [(settle_timer s).1]; exact (quiet_of_reportsStart reported).2
  rw [LineAgrees, startSegment_view]
  exact ⟨h.settle.openSegment calm g, calm⟩

/-- R131: an attempt is handed over, by a block that has noted its frame or its offer. -/
theorem handOver_agrees {s u : State} (h : LineAgrees s) (drives : s.mayDrive = true) (calm : s.timer.breakInProgress = false)
    (a : Attempt) (noted : attemptView u = { attemptView s with
      offer := announced a, flying := fun n => dataStream a == some n }) : LineAgrees (State.handOver a u) := by
  show AttemptView.Agrees { attemptView u with transmit := .waiting a, txd := .recessive }
  rw [noted]
  exact h.handOver drives calm a

/-- With nothing current, nothing flies. -/
theorem nothing_flies_of_idle {s : State} (h : LineAgrees s) (idle : s.line.transmit = .idle) :
    s.ann.offer = none ∧ ∀ n : StreamNo, s.streams[n].inFlight.isSome = false := by
  have here : (attemptView s).transmit = .idle := idle
  obtain ⟨offer, flying⟩ := h.nothing_flies (by rw [here]; rfl) (by rw [here]; rfl)
  exact ⟨offer, congrFun flying⟩

theorem silent_view {s : State} (h : LineAgrees s) (idle : s.line.transmit = .idle) :
    attemptView s = { attemptView s with offer := none, flying := fun _ => false } := by
  have here : (attemptView s).transmit = .idle := idle
  obtain ⟨offer, flying⟩ := h.nothing_flies (by rw [here]; rfl) (by rw [here]; rfl)
  rw [← offer, ← flying]

/-- R91 to R93: an own slot frame is handed over. -/
theorem supply_agrees {s : State} (h : LineAgrees s) (calm : s.timer.breakInProgress = false) (k : Slot) :
    LineAgrees (State.supply k s) := by
  unfold State.supply
  split
  · next free =>
    obtain ⟨drives, idle⟩ : s.mayDrive = true ∧ s.line.transmit = .idle := by simpa using free
    obtain ⟨offer, landed⟩ := nothing_flies_of_idle h idle
    split
    · next n _ =>
      simp only [State.supplyFrame]
      split
      · exact h
      split
      · next payload _ =>
        refine handOver_agrees h drives calm _ ?_
        have launched (m : StreamNo) : (State.modifyStream n (Stream.launch payload) s).streams[m].inFlight.isSome =
            (some n == some m) := by
          rw [State.modifyStream, vector_set_get]
          split
          · next here => subst here; simp [Stream.launch]
          · next other => exact (landed m).trans (beq_eq_false_iff_ne.mpr fun e => other (Option.some.inj e).symm).symm
        simp only [attemptView, launched]
        simp only [State.modifyStream, offer, announced, dataStream, dataFrame]
      · exact handOver_agrees h drives calm _ (silent_view h idle)
    · exact h
  · exact h

theorem slotStart_agrees {s : State} (h : LineAgrees s) (k : Slot) (rx : Option Stretch) :
    LineAgrees (State.slotStart k rx s) := by
  unfold State.slotStart
  split
  · next reported =>
    obtain ⟨started, calm⟩ := startSegment_agrees h (.slot k) rx reported
    dsimp only
    refine supply_agrees ?_ ?_ k
    · exact started.of_view rfl
    · exact calm
  · exact h

/-- R57: an announcement is offered. -/
theorem offerIn_agrees {s : State} (h : LineAgrees s) (drives : s.mayDrive = true) (idle : s.line.transmit = .idle)
    (calm : s.timer.breakInProgress = false) (w : WindowNo) (a : Announcement) : LineAgrees (State.offerIn w a s) := by
  obtain ⟨-, landed⟩ := nothing_flies_of_idle h idle
  refine handOver_agrees h drives calm _ ?_
  simp only [attemptView, State.setOffer, landed, announced, dataStream]
  rfl

theorem offerClaim_agrees {s : State} (h : LineAgrees s) (idle : s.line.transmit = .idle)
    (calm : s.timer.breakInProgress = false) (w : WindowNo) : LineAgrees (State.offerClaim w s) := by
  unfold State.offerClaim
  split
  · next active =>
    split
    · exact offerIn_agrees h (by simp [State.mayDrive, active]) idle calm w _
    · exact h
  · exact h

theorem offerFirst_agrees {s : State} (h : LineAgrees s) (drives : s.mayDrive = true) (idle : s.line.transmit = .idle)
    (calm : s.timer.breakInProgress = false) (w : WindowNo) : LineAgrees (State.offerFirst w s) := by
  unfold State.offerFirst
  split
  · exact offerIn_agrees h drives idle calm w _
  · split
    · exact offerIn_agrees h drives idle calm w _
    · unfold State.leaveIfDone
      split
      · exact offerClaim_agrees (leaveEnds_agrees s) rfl rfl w
      · exact offerClaim_agrees h idle calm w

theorem windowStart_agrees {s : State} (h : LineAgrees s) (w : WindowNo) (rx : Option Stretch) :
    LineAgrees (State.windowStart w rx s) := by
  unfold State.windowStart
  split
  · next reported =>
    obtain ⟨started, calm⟩ := startSegment_agrees h (.window w) rx reported
    rw [LineAgrees, attemptView_changing]
    have begun : LineAgrees (State.clearLostNote (State.startSegment (.window w) (windowStartAt w) rx s)) :=
      started.of_view (by simp)
    generalize clears : State.clearLostNote (State.startSegment (.window w) (windowStartAt w) rx s) = u at begun
    have quiet : (attemptView u).inBreak = false := by rw [← clears, attemptView_clearLostNote, calm]
    unfold State.offer
    split
    · next free =>
      obtain ⟨drives, idle⟩ : u.mayDrive = true ∧ u.line.transmit = .idle := by simpa using free
      have view := attemptView_checkRecords u
      have checked : LineAgrees u.checkRecords := begun.of_view view
      refine offerFirst_agrees checked ?_ ?_ ?_ w
      · exact (congrArg AttemptView.drives view).trans drives
      · exact (congrArg AttemptView.transmit view).trans idle
      · exact (congrArg AttemptView.inBreak view).trans quiet
    · exact begun
  · exact h

theorem gapStart_agrees {s : State} (h : LineAgrees s) (rx : Option Stretch) : LineAgrees (State.gapStart rx s) := by
  unfold State.gapStart
  split
  · next reported => exact (startSegment_agrees h .gap rx reported).1
  · exact h

/-! ### Attempts -/

theorem attemptStart_agrees {s : State} (h : LineAgrees s) (run : Nat) (rx : Option Stretch) :
    LineAgrees (State.attemptStart run rx s) := by
  unfold State.attemptStart
  split
  · next a waiting =>
    have busy : (attemptView s).transmit ≠ .idle := by
      show s.line.transmit ≠ .idle
      rw [waiting]; nofun
    have drives : s.mayDrive = true := h.driving_allowed busy
    rw [if_pos drives]
    have calm : (attemptView s).inBreak = false := by
      cases inBreak : (attemptView s).inBreak with
      | false => rfl
      | true =>
        have alone := h.break_alone inBreak
        rw [show (attemptView s).transmit = _ from waiting] at alone
        exact alone.elim nofun nofun
    have driving : LineAgrees (State.atPosition a.firstPosition (State.setTransmit (.driving a) .dominant
        (State.noteReception rx (State.atRun run s)))) := by
      have noted : attemptView (State.noteReception rx (State.atRun run s)) = attemptView s := by simp
      show AttemptView.Agrees { attemptView (State.noteReception rx (State.atRun run s)) with
        transmit := .driving a, txd := .dominant }
      rw [noted]
      refine h.goesOn ?_ (fun _ => ⟨a, rfl⟩) calm busy
      rw [show (attemptView s).transmit = _ from waiting]; rfl
    simp only [State.drive]
    split
    · exact driving.of_view (attemptView_beginCharacter _ _)
    · exact driving
  · exact h

/-- R132: the own break has no bit that is sent recessive. -/
theorem brk_no_mismatch (bit : Nat) : Attempt.brk.bits[bit]? ≠ some true := by
  intro mismatch
  have := List.mem_of_getElem? mismatch
  simp [Attempt.bits] at this

theorem arbitrationMismatch_agrees {s : State} (h : LineAgrees s) (bit : Nat) :
    LineAgrees (State.arbitrationMismatch bit s) := by
  unfold State.arbitrationMismatch
  split
  · next a driving =>
    split
    · next mismatch =>
      have busy : (attemptView s).transmit ≠ .idle := by
        show s.line.transmit ≠ .idle
        rw [driving]; nofun
      have calm : (attemptView s).inBreak = false := by
        cases inBreak : (attemptView s).inBreak with
        | false => rfl
        | true =>
          have alone := h.break_alone inBreak
          rw [show (attemptView s).transmit = _ from driving] at alone
          rcases alone with idle | own
          · cases idle
          · cases own; exact absurd mismatch (brk_no_mismatch bit)
      refine h.goesOn (x := .settling a (if bit < arbitrationBits then .lost else .fault)) (txd := .recessive) ?_ nofun calm busy
      rw [show (attemptView s).transmit = _ from driving]; rfl
    · exact h
  · exact h

theorem breakFault_view (bit : Nat) (s : State) : attemptView (State.breakFault bit s) = { attemptView s with owed := false } := by
  simp only [State.breakFault]
  split
  · rfl
  · rw [attemptView_rearm]; rfl

theorem transmitFault_agrees {s : State} (h : LineAgrees s) (bit : Nat) : LineAgrees (State.transmitFault bit s) := by
  unfold State.transmitFault
  split
  · next a driving =>
    split
    · have faulted : LineAgrees (State.attemptFault a (State.atRun 0 s)) := by
        have ends := attemptFault_ends a (State.atRun 0 s)
        rw [LineAgrees, ends.view (s := State.atRun 0 s) h (by show currentAttempt s.line.transmit = _; rw [driving]; rfl)]
        exact AttemptView.Agrees.quiet h
      simp only [State.dominantFault]
      split
      · rw [LineAgrees, breakFault_view]; exact faulted.owesNothing
      · split
        · split
          · exact faulted.of_view (attemptView_noCharacter _)
          · exact faulted
        · exact faulted
    · exact h
  · exact LineAgrees.settle (s := State.atRun 0 s) h
  · exact h

theorem breakComplete_agrees {s : State} (h : LineAgrees s) : LineAgrees s.breakComplete := by
  unfold State.breakComplete
  split
  · next driving =>
    have ended := endBreak_view h (.inr driving)
    rw [State.endBreak, if_pos driving] at ended
    show (attemptView s.endAttempt).Agrees
    rw [ended]; exact h.quiet
  · exact h

/-! ### COMPLETE -/

/-- With the frame of a stream, if any, no longer in flight. -/
def AttemptView.landed (d : Option StreamNo) (v : AttemptView) : AttemptView :=
  { v with flying := fun m => d != some m && v.flying m }

/-- R94: the in-flight frame that has gone out is gone. -/
theorem dataComplete_view (n : StreamNo) (s : State) :
    attemptView (State.dataComplete n s) = (attemptView s).landed (some n) := by
  have sent (m : StreamNo) : (State.modifyStream n Stream.sentOne (State.returnBuffers
      (if s.streams[n].inFlight.isSome then 1 else 0) s)).streams[m].inFlight.isSome =
      (some n != some m && s.streams[m].inFlight.isSome) := by
    rw [State.modifyStream, vector_set_get]
    split
    · next here => subst here; simp [Stream.sentOne]
    · next other =>
      have apart : (some n != some m) = true := bne_iff_ne.mpr fun e => other (Option.some.inj e).symm
      rw [apart, Bool.true_and]; rfl
  have view : attemptView (State.modifyStream n Stream.sentOne (State.returnBuffers
      (if s.streams[n].inFlight.isSome then 1 else 0) s)) = (attemptView s).landed (some n) := by
    simp only [attemptView, AttemptView.landed, sent]; rfl
  simp only [State.dataComplete]
  split
  · exact view
  · exact view

theorem countChoice_view (free : Nat) (s : State) : attemptView (State.countChoice free s) = attemptView s := by
  unfold State.countChoice; split <;> rfl

/-- R31, R94, R108: an own slot frame that has gone out. -/
theorem frameComplete_view (k : Slot) (f : SlotFrame) (s : State) :
    attemptView (State.frameComplete k f s) = (attemptView s).landed (dataStream (.slotFrame k f)) := by
  have heard : attemptView (State.hearOwnFrame k s) = attemptView s := rfl
  simp only [State.frameComplete]
  split
  · next keep =>
    rw [attemptView_tapTake, heard, dataStream, keep]; rfl
  · next data =>
    rw [countChoice_view, dataStream, data]
    split
    · rw [attemptView_tapTake, dataComplete_view, heard]
    · rw [dataComplete_view, attemptView_tapTake, heard]

theorem claimComplete_view (n : StreamNo) (slots : SlotSet) (s : State) :
    attemptView (State.claimComplete n slots s) = attemptView s := by
  have claims : attemptView (State.modifyStream n (Stream.claimed (s.map.claimable slots)
      (State.changeMap (fun m => m.claim s.own n slots) s).setup.attemptReload)
      (State.changeMap (fun m => m.claim s.own n slots) s)) = attemptView s := by
    rw [attemptView_modifyStream _ n fun st => by rw [claimed_eq], attemptView_changeMap]
  simp only [State.claimComplete]
  split <;> exact claims

theorem attemptView_dropRelease (n : StreamNo) (s : State) : attemptView (State.dropRelease n s) = attemptView s := rfl

theorem announcementComplete_agrees {s : State} (a : Announcement) (h : LineAgrees (State.setOffer none s)) :
    LineAgrees (State.announcementComplete a s) := by
  simp only [State.announcementComplete]
  split
  · exact h.of_view (claimComplete_view _ _ _)
  · simp only [State.releaseComplete]
    refine LineAgrees.leaveIfDone (h.of_view ?_)
    rw [attemptView_modifyStream _ _ (f := Stream.released a.slots) fun st => rfl, attemptView_dropRelease, attemptView_changeMap]
  · exact h

theorem attemptComplete_agrees {s : State} (h : LineAgrees s) : LineAgrees s.attemptComplete := by
  have landed {a : Attempt} (driving : s.line.transmit = .driving a) := flies_of_current h (a := a) (by rw [driving]; rfl)
  unfold State.attemptComplete
  split
  · next sender driving =>
    obtain ⟨offer, flight⟩ := landed driving
    have ended : attemptView s.endAttempt = (attemptView s).quiet := by
      show { attemptView s with transmit := .idle, txd := .recessive } = _
      simp only [AttemptView.quiet, attemptView, offer, flight]; rfl
    rw [LineAgrees, attemptView_takeMark, attemptView_endFrame, ended]; exact h.quiet
  · next k f driving =>
    obtain ⟨offer, flight⟩ := landed driving
    have ended : attemptView (State.frameComplete k f (State.endFrame s.endAttempt)) = (attemptView s).quiet := by
      have gone (m : StreamNo) : (dataStream (.slotFrame k f) != some m && s.streams[m].inFlight.isSome) = false := by
        rw [flight, bne, Bool.not_and_self]
      have silent : s.ann.offer = none := offer
      rw [frameComplete_view, attemptView_endFrame]
      simp only [AttemptView.quiet, AttemptView.landed, attemptView, State.endAttempt, State.setTransmit, gone, silent]
    rw [LineAgrees, ended]; exact h.quiet
  · next w a driving =>
    obtain ⟨offer, flight⟩ := landed driving
    refine announcementComplete_agrees a ?_
    have ended : attemptView (State.setOffer none (State.endFrame s.endAttempt)) = (attemptView s).quiet := by
      show { attemptView s with transmit := .idle, txd := .recessive, offer := none } = _
      simp only [AttemptView.quiet, attemptView, flight]; rfl
    rw [LineAgrees, ended]; exact h.quiet
  · exact h

/-! ### Frames of other stations -/

theorem receiveWhole_agrees {admits legal : Bool} {deliver : State → State} (delivers : ∀ u, LineAgrees u → LineAgrees (deliver u))
    (offset : Nat) {s : State} (h : LineAgrees s) : LineAgrees (State.receiveWhole admits offset legal deliver s) := by
  have settled : LineAgrees (State.settle (State.atRun 0 s)) := LineAgrees.settle (s := State.atRun 0 s) h
  unfold State.receiveWhole
  split
  · dsimp only
    split
    · exact settled
    · exact settled.of_view (attemptView_rxError _)
    · split
      · exact delivers _ settled
      · exact settled.of_view (attemptView_rxError _)
  · exact h

theorem slotFrameReceived_agrees {s : State} (h : LineAgrees s) (offset : Nat) (f : SlotFrame) :
    LineAgrees (State.slotFrameReceived offset f s) := by
  unfold State.slotFrameReceived
  split
  · refine receiveWhole_agrees (fun u hu => ?_) offset h
    unfold State.deliverFrame
    split
    · exact clash_agrees u
    · exact hu.of_view (by simp [State.learnFrame])
  · exact h

theorem announcementReceived_agrees {s : State} (h : LineAgrees s) (offset : Nat) (a : Announcement) {apply : State → State}
    (view : ∀ u, attemptView (apply u) = attemptView u) : LineAgrees (State.announcementReceived offset a apply s) := by
  refine receiveWhole_agrees (fun u hu => ?_) offset h
  unfold State.deliverAnnouncement
  split
  · exact clash_agrees u
  · exact hu.of_view (view u)

theorem hearClaim_view (sender : Nat) (n : StreamNo) (slots : SlotSet) (s : State) :
    attemptView (State.hearClaim sender n slots s) = attemptView s := by
  rw [State.hearClaim, attemptView_changeMap, attemptView_claimOnOwn]

theorem hearObject_view (sender : Nat) (n : StreamNo) (k : Slot) (aux : Nat) (s : State) :
    attemptView (State.hearObject sender n k aux s) = attemptView s := by
  rw [State.hearObject, attemptView_reportLoss, attemptView_changeMap]

theorem receiveError_agrees {s : State} (h : LineAgrees s) (heard : Stretch) : LineAgrees (State.receiveError heard s) := by
  unfold State.receiveError
  split
  · exact h.of_view (by simp)
  · exact h

end Sys2Proof.Proofs
end

section
/-! SUPPORT. The lists of the streams and the slot map: what of the state their agreement is about, and what follows from
it for an event that takes slots from streams. -/

namespace Sys2Proof.Proofs

open Sys2Proof Sys2Proof.Machine Sys2Proof.Safety

/-! ### Sizes of slot sets -/

theorem card_eq_countP (a : SlotSet) : SlotSet.card a = (List.finRange 32).countP (SlotSet.has a) := rfl

theorem card_le_of_within {a b : SlotSet} (h : within a b) : SlotSet.card a ≤ SlotSet.card b := by
  rw [card_eq_countP, card_eq_countP]
  exact List.countP_mono_left fun k _ => h k

theorem countP_or_le {α : Type} (p q : α → Bool) (l : List α) :
    l.countP (fun x => p x || q x) ≤ l.countP p + l.countP q := by
  induction l with
  | nil => simp
  | cons x l ih => simp only [List.countP_cons]; cases p x <;> cases q x <;> simp <;> omega

theorem card_or_le (a b : SlotSet) : SlotSet.card (a ||| b) ≤ SlotSet.card a + SlotSet.card b := by
  have union : SlotSet.card (a ||| b) = (List.finRange 32).countP fun k => SlotSet.has a k || SlotSet.has b k := by
    rw [card_eq_countP]
    congr 1
    funext k
    exact SlotSet.has_or a b k
  rw [union]
  exact countP_or_le _ _ _

theorem countP_or_disjoint {α : Type} {p q : α → Bool} (l : List α) (h : ∀ x, p x = true → q x = false) :
    l.countP (fun x => p x || q x) = l.countP p + l.countP q := by
  induction l with
  | nil => simp
  | cons x l ih =>
    simp only [List.countP_cons, ih]
    cases hp : p x with
    | false => cases q x <;> simp; omega
    | true => rw [h x hp]; simp; omega

theorem card_or_disjoint {a b : SlotSet} (h : ∀ k : Slot, SlotSet.has a k = true → SlotSet.has b k = false) :
    SlotSet.card (a ||| b) = SlotSet.card a + SlotSet.card b := by
  have union : SlotSet.card (a ||| b) = (List.finRange 32).countP fun k => SlotSet.has a k || SlotSet.has b k := by
    rw [card_eq_countP]
    congr 1
    funext k
    exact SlotSet.has_or a b k
  rw [union, countP_or_disjoint _ h]
  rfl

theorem card_slotsOf_le (ks : List Slot) : SlotSet.card (slotsOf ks) ≤ ks.length := by
  rw [card_eq_countP, List.countP_eq_length_filter]
  refine List.Subperm.length_le (List.subperm_of_subset ((List.nodup_finRange 32).filter _) fun k hk => ?_)
  have := (List.mem_filter.mp hk).2
  rw [slotsOf, SlotSet.has_ofPred] at this
  simpa using this

theorem within_refl (a : SlotSet) : within a a := fun _ h => h

theorem within_trans {a b c : SlotSet} (h : within a b) (h' : within b c) : within a c := fun k hk => h' k (h k hk)

theorem has_slots (st : Stream) (k : Slot) :
    SlotSet.has st.slots k = (SlotSet.has st.held k || SlotSet.has st.pending k) := by
  rw [Stream.slots, SlotSet.has_or]

/-! ### Own entries -/

/-- R42: an own entry that is not detached is in one of the two lists. -/
theorem ownStream_iff (own : Nat) (e : EntryState) (n : StreamNo) :
    e.ownStream own = some n ↔ e.ownHeld own = some n ∨ e.ownPending own = some n := by
  cases e <;> simp [EntryState.ownStream, EntryState.ownHeld, EntryState.ownPending]

/-- It is not in both. -/
theorem ownHeld_or_ownPending (own : Nat) (e : EntryState) : e.ownHeld own = none ∨ e.ownPending own = none := by
  cases e <;> simp [EntryState.ownHeld, EntryState.ownPending]

/-- R42: an entry that is not own, or is detached, is in no list. -/
theorem own_none_iff (own : Nat) (e : EntryState) :
    e.ownStream own = none ↔ e.ownHeld own = none ∧ e.ownPending own = none := by
  cases e <;> simp [EntryState.ownStream, EntryState.ownHeld, EntryState.ownPending]

section Mirror
variable {s : State} (h : ListsMirrorMap s)
include h

theorem has_slots_mirror (n : StreamNo) (k : Slot) :
    SlotSet.has s.streams[n].slots k = true ↔ s.map[k].state.ownStream s.own = some n := by
  obtain ⟨held, pending⟩ := h n k
  rw [has_slots, held, pending, ownStream_iff, Bool.or_eq_true, beq_iff_eq, beq_iff_eq]

theorem card_slots_mirror (n : StreamNo) :
    SlotSet.card s.streams[n].slots = SlotSet.card s.streams[n].held + SlotSet.card s.streams[n].pending := by
  refine card_or_disjoint fun k held => ?_
  obtain ⟨inHeld, inPending⟩ := h n k
  rw [inHeld, beq_iff_eq] at held
  rw [inPending]
  rcases ownHeld_or_ownPending s.own s.map[k].state with none | none
  · rw [none] at held; cases held
  · rw [none]; rfl

end Mirror

/-! ### What the agreement is about -/

/-- What the agreement is about in a stream. -/
def listsOf (st : Stream) : Stream :=
  { st with suspended := false, queue := [], inFlight := none, nextSeq := 0, sent := 0, requeued := 0, lost := 0 }

/-- The part of the state that the agreement of map and streams speaks of. -/
structure MapView where
  setup : Setup
  state : StationState
  map   : SlotMap
  ann   : AnnouncementUnit
  lists : StreamNo → Stream

/-- That part of a state. -/
def mapView (s : State) : MapView where
  setup := s.setup
  state := s.station.state
  map   := s.map
  ann   := s.ann
  lists := fun n => listsOf s.streams[n]

/-- `MapAndStreamsAgree` without the attempts, and `StreamsInRange` where `ranged` holds. -/
structure MapAgrees (ranged : Prop) (s : State) : Prop where
  rests : Resting s → MapClear s.map ∧ (∀ n : StreamNo, s.streams[n].held = 0 ∧ s.streams[n].pending = 0) ∧ s.ann = .reset
  releases : ReleasesCover s
  mirror : ListsMirrorMap s
  ranges : ranged → StreamsInRange s

theorem agrees_iff {s t : State} : (MapAndStreamsAgree t ∧ (StreamsInRange s → StreamsInRange t)) ↔
    LineAgrees t ∧ MapAgrees (StreamsInRange s) t := by
  rw [lineAgrees_iff]
  constructor
  · rintro ⟨⟨attempts, resting, releases, mirror⟩, ranges⟩
    refine ⟨⟨attempts, fun rest => ?_⟩, ⟨fun rest => ?_, releases, mirror, ranges⟩⟩
    · obtain ⟨running, inBreak, receiver, -⟩ := resting rest
      exact ⟨running, inBreak, receiver⟩
    · obtain ⟨-, -, -, clear, lists, ann⟩ := resting rest
      exact ⟨clear, lists, ann⟩
  · rintro ⟨⟨attempts, line⟩, ⟨rests, releases, mirror, ranges⟩⟩
    refine ⟨⟨attempts, fun rest => ?_, releases, mirror⟩, ranges⟩
    obtain ⟨running, inBreak, receiver⟩ := line rest
    obtain ⟨clear, lists, ann⟩ := rests rest
    exact ⟨running, inBreak, receiver, clear, lists, ann⟩

section View
variable {s t : State} (view : mapView t = mapView s)
include view

theorem setup_of_mapView : t.setup = s.setup := congrArg MapView.setup view
theorem state_of_mapView : t.station.state = s.station.state := congrArg MapView.state view
theorem map_of_mapView : t.map = s.map := congrArg MapView.map view
theorem ann_of_mapView : t.ann = s.ann := congrArg MapView.ann view
theorem lists_of_mapView (n : StreamNo) : listsOf t.streams[n] = listsOf s.streams[n] :=
  congrFun (congrArg MapView.lists view) n

theorem stream_of_mapView (n : StreamNo) : t.streams[n] = { s.streams[n] with
    suspended := t.streams[n].suspended, queue := t.streams[n].queue, inFlight := t.streams[n].inFlight
    nextSeq := t.streams[n].nextSeq, sent := t.streams[n].sent, requeued := t.streams[n].requeued
    lost := t.streams[n].lost } := by
  have lists := lists_of_mapView view n
  generalize t.streams[n] = a at lists ⊢
  generalize s.streams[n] = b at lists ⊢
  obtain ⟨⟩ := a
  obtain ⟨⟩ := b
  simp only [listsOf, Stream.mk.injEq] at lists ⊢
  simp only [lists, and_self]

end View

/-- A state that shows the same view agrees too. -/
theorem MapAgrees.of_view {ranged : Prop} {s t : State} (h : MapAgrees ranged s) (view : mapView t = mapView s) :
    MapAgrees ranged t := by
  obtain ⟨rests, ⟨closed, claim, record, flight, differ⟩, mirror, ranges⟩ := h
  have setup := setup_of_mapView view
  have map := map_of_mapView view
  have ann := ann_of_mapView view
  have state (n : StreamNo) : t.streams[n].state = s.streams[n].state := by rw [stream_of_mapView view n]
  have held (n : StreamNo) : t.streams[n].held = s.streams[n].held := by rw [stream_of_mapView view n]
  have pending (n : StreamNo) : t.streams[n].pending = s.streams[n].pending := by rw [stream_of_mapView view n]
  have slots (n : StreamNo) : t.streams[n].slots = s.streams[n].slots := by rw [Stream.slots, held, pending]; rfl
  have own : t.own = s.own := by rw [State.own, setup]; rfl
  have spoke (n : StreamNo) : spoken t n = spoken s n := by rw [spoken, held, pending, ann]; rfl
  refine ⟨fun rest => ?_, ⟨fun n => ?_, fun a => ?_, fun n set => ?_, fun a => ?_, ?_⟩, fun n k => ?_, fun r => ?_⟩
  · rw [map, ann]
    obtain ⟨clear, lists, quiet⟩ := rests (by rwa [Resting, state_of_mapView view] at rest)
    exact ⟨clear, fun n => by rw [held, pending]; exact lists n, quiet⟩
  · rw [state, held, pending]; exact closed n
  · rw [ann, state]; exact claim a
  · rw [ann, state, slots]; exact record n set
  · rw [ann, state, slots, map, own]; exact flight a
  · rw [ann]; exact differ
  · rw [held, pending, map, own]; exact mirror n k
  · obtain ⟨reload, wanted, lists, total, attempts, backoff, claiming, stall, closing, objects⟩ := ranges r
    refine ⟨by rwa [setup], fun n => ?_, fun n => ?_, ?_, fun n => ?_, fun n => ?_, fun a => ?_, fun n => ?_, fun n => ?_, ?_⟩
    · rw [stream_of_mapView view n]; exact wanted n
    · rw [spoke, stream_of_mapView view n]; exact lists n
    · simp only [spoke]; exact total
    · rw [setup, stream_of_mapView view n]; exact attempts n
    · rw [stream_of_mapView view n]; exact backoff n
    · rw [ann, stream_of_mapView view a.stream]; exact claiming a
    · rw [stream_of_mapView view n]; exact stall n
    · rw [stream_of_mapView view n]; exact closing n
    · rw [ann]; exact objects


end Sys2Proof.Proofs
end

section
/-! SUPPORT. Map and streams agree: what keeps the agreement, by the kinds of event. -/

namespace Sys2Proof.Proofs

open Sys2Proof Sys2Proof.Machine Sys2Proof.Safety

/-! ### The ranges, sorted -/

/-- The ranges of one stream's own counts. -/
structure StreamFits (reload : Nat) (st : Stream) : Prop where
  wanted   : st.wanted ≤ 8
  attempts : st.attempts ≤ reload
  backoff  : st.backoff ≤ 4 ∧ (st.attempts = 0 ↔ st.backoff ≠ 0)
  stall    : st.stall ≤ 64
  closing  : st.closeCount ≤ 8 ∧ (st.state = .releasing → st.closeCount < 8)

/-- The OBJECT records of a queue. -/
def objectsOf (q : List Record) : List Slot := q.filterMap fun r => match r with
  | .object k => some k
  | .release _ _ => none

/-- The ranges of every stream's own counts. -/
def CountsFit (s : State) : Prop :=
  (1 ≤ s.setup.attemptReload ∧ s.setup.attemptReload ≤ 15) ∧ ∀ n : StreamNo, StreamFits s.setup.attemptReload s.streams[n]

/-- The ranges that speak of more than one stream or of the announcement unit. -/
structure SpokenFits (s : State) : Prop where
  lists   : ∀ n : StreamNo, spoken s n ≤ s.streams[n].wanted
  total   : ((List.finRange 8).map fun n => spoken s n).sum ≤ 16
  claims  : ∀ a, s.ann.offer = some a → a.kind = .claim → s.streams[a.stream].backoff = 0
  objects : (objectsOf s.ann.queue).Nodup

theorem streamsInRange_iff (s : State) : StreamsInRange s ↔ CountsFit s ∧ SpokenFits s := by
  constructor
  · rintro ⟨reload, wanted, lists, total, attempts, backoff, claiming, stall, closing, objects⟩
    exact ⟨⟨reload, fun n => ⟨wanted n, attempts n, backoff n, stall n, closing n⟩⟩, ⟨lists, total, claiming, objects⟩⟩
  · rintro ⟨⟨reload, fits⟩, ⟨lists, total, claiming, objects⟩⟩
    exact ⟨reload, fun n => (fits n).wanted, lists, total, fun n => (fits n).attempts, fun n => (fits n).backoff, claiming,
      fun n => (fits n).stall, fun n => (fits n).closing, objects⟩

/-- The slots that an offer claims for a stream. -/
def offered (offer : Option Announcement) (n : StreamNo) : Nat :=
  match offer with
  | some a => if a.kind = .claim ∧ a.stream = n then SlotSet.card a.slots else 0
  | none => 0

theorem spoken_eq {s : State} (h : ListsMirrorMap s) (n : StreamNo) :
    spoken s n = SlotSet.card s.streams[n].slots + offered s.ann.offer n := by
  rw [card_slots_mirror h]; rfl

/-- R48, R84: an event that takes slots from streams, or ends an offer, keeps the totals. -/
theorem spoken_le {s t : State} (hs : ListsMirrorMap s) (ht : ListsMirrorMap t)
    (slots : ∀ n : StreamNo, within t.streams[n].slots s.streams[n].slots)
    (offer : t.ann.offer = none ∨ t.ann.offer = s.ann.offer) (n : StreamNo) : spoken t n ≤ spoken s n := by
  rw [spoken_eq hs, spoken_eq ht]
  have fewer := card_le_of_within (slots n)
  rcases offer with none | same
  · rw [none]; exact Nat.le_add_right_of_le fewer
  · rw [same]; omega

theorem sum_le_of_spoken_le {s t : State} (h : ∀ n : StreamNo, spoken t n ≤ spoken s n) :
    ((List.finRange 8).map fun n => spoken t n).sum ≤ ((List.finRange 8).map fun n => spoken s n).sum :=
  List.sum_le_sum fun n _ => h n

/-! ### Events that take slots from streams -/

/-- The lists are a part of what they were, and the rest of what the agreement is about has stayed. -/
structure Shrinks (s t : State) : Prop where
  setup : t.setup = s.setup
  ann   : t.ann = s.ann
  slots : ∀ n : StreamNo, within t.streams[n].slots s.streams[n].slots
  state : ∀ n : StreamNo, (t.streams[n].state = .closed ↔ s.streams[n].state = .closed) ∧
    (t.streams[n].state = .releasing ↔ s.streams[n].state = .releasing)
  counts : ∀ n : StreamNo, t.streams[n].wanted = s.streams[n].wanted ∧ t.streams[n].attempts = s.streams[n].attempts ∧
    t.streams[n].backoff = s.streams[n].backoff ∧ t.streams[n].stall = s.streams[n].stall ∧
    t.streams[n].closeCount = s.streams[n].closeCount

theorem lists_zero_of_within {a b : Stream} (h : within a.slots b.slots) (empty : b.held = 0 ∧ b.pending = 0) :
    a.held = 0 ∧ a.pending = 0 := by
  have none (k : Slot) : SlotSet.has a.slots k = false := by
    cases has : SlotSet.has a.slots k with
    | false => rfl
    | true =>
      have there := h k has
      rw [has_slots, empty.1, empty.2, SlotSet.has_zero] at there
      cases there
  have both (k : Slot) : SlotSet.has a.held k = false ∧ SlotSet.has a.pending k = false := by
    rw [← Bool.or_eq_false_iff, ← has_slots]; exact none k
  exact ⟨SlotSet.ext fun k => by rw [(both k).1, SlotSet.has_zero], SlotSet.ext fun k => by rw [(both k).2, SlotSet.has_zero]⟩

/-- R86, R30, R39: such an event keeps the agreement, where the mirror holds after it. -/
theorem MapAgrees.shrink {ranged : Prop} {s t : State} (h : MapAgrees ranged s) (shrinks : Shrinks s t)
    (mirror : ListsMirrorMap t) (awake : ¬ Resting t) : MapAgrees ranged t := by
  obtain ⟨-, ⟨closed, claim, record, flight, differ⟩, mirror', ranges⟩ := h
  obtain ⟨setup, ann, slots, state, counts⟩ := shrinks
  refine ⟨fun rest => absurd rest awake, ⟨fun n shut => ?_, fun a offer kind => ?_, fun n set mem => ?_, fun a offer kind => ?_, ?_⟩,
    mirror, fun r => ?_⟩
  · exact lists_zero_of_within (slots n) (closed n ((state n).1.mp shut))
  · rw [ne_eq, (state a.stream).1]
    exact claim a (ann ▸ offer) kind
  · obtain ⟨releasing, covers⟩ := record n set (ann ▸ mem)
    exact ⟨(state n).2.mpr releasing, within_trans (slots n) covers⟩
  · obtain ⟨releasing, covers, alone⟩ := flight a (ann ▸ offer) kind
    refine ⟨(state a.stream).2.mpr releasing, within_trans (slots a.stream) covers, fun k m named owned => ?_⟩
    have here := slots m k ((has_slots_mirror mirror m k).mpr owned)
    exact alone k m named ((has_slots_mirror mirror' m k).mp here)
  · rw [ann]; exact differ
  · obtain ⟨⟨reload, fits⟩, ⟨lists, total, claims, objects⟩⟩ := (streamsInRange_iff s).mp (ranges r)
    have fewer := spoken_le mirror' mirror slots (.inr (by rw [ann]))
    refine (streamsInRange_iff t).mpr ⟨⟨setup ▸ reload, fun n => ?_⟩, ⟨fun n => ?_, ?_, fun a offer kind => ?_, by rw [ann]; exact objects⟩⟩
    · obtain ⟨wanted, attempts, backoff, stall, closeCount⟩ := counts n
      obtain ⟨f1, f2, f3, f4, f5⟩ := fits n
      rw [setup]
      exact ⟨by rwa [wanted], by rwa [attempts], by rwa [backoff, attempts], by rwa [stall],
        by rwa [closeCount, (state n).2]⟩
    · rw [(counts n).1]; exact (fewer n).trans (lists n)
    · exact (sum_le_of_spoken_le fewer).trans total
    · rw [(counts a.stream).2.2.1]; exact claims a (ann ▸ offer) kind

/-! ### Events after which no announcement is in flight -/

/-- What an event that leaves no announcement in flight owes the agreement. -/
structure Grounds (s t : State) : Prop where
  setup   : t.setup = s.setup
  offer   : t.ann.offer = none
  mirror  : ListsMirrorMap t
  slots   : ∀ n : StreamNo, within t.streams[n].slots s.streams[n].slots
  wanted  : ∀ n : StreamNo, t.streams[n].wanted = s.streams[n].wanted
  closed  : ∀ n : StreamNo, t.streams[n].state = .closed →
    s.streams[n].state = .closed ∨ (t.streams[n].held = 0 ∧ t.streams[n].pending = 0)
  record  : ∀ n set, Record.release n set ∈ t.ann.queue →
    t.streams[n].state = .releasing ∧ within t.streams[n].slots set
  differ  : (t.ann.queue.filterMap releaseStream).Nodup
  objects : (objectsOf s.ann.queue).Nodup → (objectsOf t.ann.queue).Nodup

/-- The totals after such an event. -/
theorem Grounds.spokenFits {s t : State} (g : Grounds s t) (mirror : ListsMirrorMap s) (h : SpokenFits s) : SpokenFits t := by
  obtain ⟨lists, total, -, objects⟩ := h
  have fewer := spoken_le mirror g.mirror g.slots (.inl g.offer)
  refine ⟨fun n => ?_, (sum_le_of_spoken_le fewer).trans total, fun a offer => ?_, g.objects objects⟩
  · rw [g.wanted]; exact (fewer n).trans (lists n)
  · rw [g.offer] at offer; cases offer

theorem MapAgrees.ground {ranged : Prop} {s t : State} (h : MapAgrees ranged s) (g : Grounds s t)
    (fits : StreamsInRange s → CountsFit t) (awake : ¬ Resting t) : MapAgrees ranged t := by
  obtain ⟨-, ⟨closed, -, -, -, -⟩, mirror, ranges⟩ := h
  refine ⟨fun rest => absurd rest awake, ⟨fun n shut => ?_, fun a offer => ?_, g.record, fun a offer => ?_, g.differ⟩,
    g.mirror, fun r => ?_⟩
  · rcases g.closed n shut with was | empty
    · exact lists_zero_of_within (g.slots n) (closed n was)
    · exact empty
  · rw [g.offer] at offer; cases offer
  · rw [g.offer] at offer; cases offer
  · exact (streamsInRange_iff t).mpr ⟨fits (ranges r), g.spokenFits mirror ((streamsInRange_iff s).mp (ranges r)).2⟩

/-! #### Attempts that end -/

/-- R62: the fields of a stream that the agreement is about, after the end of an attempt. -/
theorem AttemptEnds.stream {o : Option Provisional} {a : Attempt} {s t : State} (ends : AttemptEnds o a s t) (n : StreamNo) :
    listsOf t.streams[n] = if o = some .lost ∧ claimStream a = some n then
      listsOf (lostClaimStream s.setup.address s.streams[n]) else listsOf s.streams[n] := by
  have returned (st : Stream) : listsOf (returnedStream st) = listsOf st := by
    unfold returnedStream
    split
    · rfl
    · split <;> rfl
  rw [ends.fails.streams]
  by_cases flies : dataStream a = some n
  · have silent : claimStream a ≠ some n := by
      cases a with
      | slotFrame k f => simp [claimStream, announced]
      | _ => simp [dataStream] at flies
    rw [if_pos flies, if_neg (fun h => silent h.2), returned]
  · rw [if_neg flies]
    split <;> rfl

/-- R62: a lost claim changes no list and no state. -/
theorem lostClaimStream_eq (own : Nat) (st : Stream) : lostClaimStream own st = { st with
    attempts := (lostClaimStream own st).attempts, backoff := (lostClaimStream own st).backoff } := by
  unfold lostClaimStream
  split_ifs <;> rfl

/-- R62: the attempt counter and the backoff of a stream that may claim, after a lost claim. -/
theorem lostClaimStream_fits {reload own : Nat} {st : Stream} (h : StreamFits reload st) (ready : st.backoff = 0) :
    StreamFits reload (lostClaimStream own st) := by
  obtain ⟨wanted, attempts, ⟨backoff, iff⟩, stall, closing⟩ := h
  have some : st.attempts ≠ 0 := fun none => (iff.mp none) ready
  unfold lostClaimStream
  split
  · split
    · exact ⟨wanted, Nat.zero_le _, ⟨by show 1 + own % 4 ≤ 4; omega, iff_of_true rfl (by show 1 + own % 4 ≠ 0; omega)⟩, stall,
        closing⟩
    · next more =>
      exact ⟨wanted, by show st.attempts - 1 ≤ reload; omega,
        ⟨backoff, iff_of_false (by show st.attempts - 1 ≠ 0; omega) (not_not_intro ready)⟩, stall, closing⟩
  · exact ⟨wanted, attempts, ⟨backoff, iff⟩, stall, closing⟩

theorem StreamFits.of_lists {reload : Nat} {st st' : Stream} (h : StreamFits reload st) (same : listsOf st' = listsOf st) :
    StreamFits reload st' := by
  obtain ⟨⟩ := st
  obtain ⟨⟩ := st'
  simp only [listsOf, Stream.mk.injEq] at same
  obtain ⟨rfl, -, rfl, rfl, rfl, -, -, -, rfl, -, -, -, rfl, rfl, rfl⟩ := same
  obtain ⟨wanted, attempts, backoff, stall, closing⟩ := h
  exact ⟨wanted, attempts, backoff, stall, closing⟩

theorem awake_of_drives {s : State} (drives : s.mayDrive = true) : ¬ Resting s := by
  rw [mayDrive_iff] at drives
  rintro (h | h) <;> rw [h] at drives <;> simp at drives

theorem MapAgrees.attemptEnds {ranged : Prop} {o : Option Provisional} {a : Attempt} {s t : State} (h : MapAgrees ranged s)
    (line : LineAgrees s) (current : currentAttempt s.line.transmit = some a) (ends : AttemptEnds o a s t) :
    MapAgrees ranged t := by
  obtain ⟨offer, -⟩ := flies_of_current line current
  have busy : s.line.transmit ≠ .idle := by
    intro idle
    rw [idle] at current; cases current
  have awake : ¬ Resting t := by
    have same : t.station.state = s.station.state := by rw [ends.fails.station]
    rw [Resting, same]
    exact awake_of_drives (line.driving_allowed busy)
  have setup : t.setup = s.setup := by rw [ends.whole]
  have map : t.map = s.map := by rw [ends.whole]
  have own : t.own = s.own := by rw [State.own, setup]; rfl
  have queue : t.ann.queue = s.ann.queue := by rw [ends.fails.ann]
  have none : t.ann.offer = none := by
    rw [ends.fails.ann, offer]
    cases announced a <;> rfl
  have lists (n : StreamNo) : t.streams[n].state = s.streams[n].state ∧ t.streams[n].held = s.streams[n].held ∧
      t.streams[n].pending = s.streams[n].pending ∧ t.streams[n].wanted = s.streams[n].wanted := by
    have same := ends.stream n
    rw [lostClaimStream_eq] at same
    have each {α : Type} (field : Stream → α) (blind : ∀ st, field (listsOf st) = field st)
        (other : ∀ st a b, field { st with attempts := a, backoff := b } = field st) :
        field t.streams[n] = field s.streams[n] := by
      rw [← blind t.streams[n], same]
      split
      · rw [blind, other]
      · rw [blind]
    exact ⟨each Stream.state (fun _ => rfl) fun _ _ _ => rfl, each Stream.held (fun _ => rfl) fun _ _ _ => rfl,
      each Stream.pending (fun _ => rfl) fun _ _ _ => rfl, each Stream.wanted (fun _ => rfl) fun _ _ _ => rfl⟩
  have slots (n : StreamNo) : t.streams[n].slots = s.streams[n].slots := by
    rw [Stream.slots, (lists n).2.1, (lists n).2.2.1]; rfl
  refine h.ground ⟨setup, none, fun n k => ?_, fun n => ?_, fun n => (lists n).2.2.2, fun n shut => ?_, fun n set mem => ?_,
    by rw [queue]; exact h.releases.records_differ, fun objects => by rwa [queue]⟩ (fun inRange => ?_) awake
  · rw [(lists n).2.1, (lists n).2.2.1, map, own]; exact h.mirror n k
  · rw [slots]; exact within_refl _
  · exact .inl ((lists n).1 ▸ shut)
  · rw [(lists n).1, slots]; exact h.releases.record_covers n set (queue ▸ mem)
  · obtain ⟨⟨reload, fits⟩, ⟨-, -, claims, -⟩⟩ := (streamsInRange_iff s).mp inRange
    refine ⟨setup ▸ reload, fun n => ?_⟩
    rw [setup]
    have same := ends.stream n
    split at same
    · next lost =>
      refine (lostClaimStream_fits (fits n) ?_).of_lists same
      obtain ⟨c, claim, rfl⟩ := Option.map_eq_some_iff.mp lost.2
      obtain ⟨announces, kind⟩ := Option.filter_eq_some_iff.mp claim
      exact claims c (offer.trans announces) (beq_iff_eq.mp kind)
    · exact (fits n).of_lists same

theorem MapAgrees.settle {ranged : Prop} {s : State} (h : MapAgrees ranged s) (line : LineAgrees s) :
    MapAgrees ranged s.settle := by
  rcases settle_cases s with same | ⟨o, a, current, ends⟩
  · rwa [same]
  · exact h.attemptEnds line current ends

end Sys2Proof.Proofs
end

section
/-! SUPPORT. Map and streams agree after a change of station state and after a boundary. -/

namespace Sys2Proof.Proofs

open Sys2Proof Sys2Proof.Machine Sys2Proof.Safety

/-! ### States in which no stream has a slot -/

/-- A state with empty lists, no own entry and nothing to announce agrees. -/
theorem MapAgrees.of_empty {ranged : Prop} {t : State}
    (lists : ∀ n : StreamNo, t.streams[n].held = 0 ∧ t.streams[n].pending = 0) (ann : t.ann = .reset)
    (none : ∀ k : Slot, t.map[k].state.ownStream t.own = none) (rests : Resting t → MapClear t.map)
    (fits : ranged → CountsFit t) : MapAgrees ranged t := by
  have offer : t.ann.offer = Option.none := by rw [ann]; rfl
  have queue : t.ann.queue = [] := by rw [ann]; rfl
  have mirror : ListsMirrorMap t := fun n k => by
    obtain ⟨held, pending⟩ := (own_none_iff _ _).mp (none k)
    rw [(lists n).1, (lists n).2, held, pending, SlotSet.has_zero]
    exact ⟨rfl, rfl⟩
  have spoke (n : StreamNo) : spoken t n = 0 := by
    rw [spoken, (lists n).1, (lists n).2, offer, card_zero]
    rfl
  refine ⟨fun rest => ⟨rests rest, lists, ann⟩, ⟨fun n _ => lists n, fun a h => ?_, fun n set h => ?_, fun a h => ?_, ?_⟩, mirror,
    fun r => (streamsInRange_iff t).mpr ⟨fits r, ⟨fun n => ?_, ?_, fun a h => ?_, ?_⟩⟩⟩
  · rw [offer] at h; cases h
  · rw [queue] at h; cases h
  · rw [offer] at h; cases h
  · rw [queue]; exact List.nodup_nil
  · rw [spoke]; exact Nat.zero_le _
  · simp [spoke]
  · rw [offer] at h; cases h
  · rw [queue]; exact List.nodup_nil

theorem MapAgrees.countsFit {ranged : Prop} {s : State} (h : MapAgrees ranged s) (r : ranged) : CountsFit s :=
  ((streamsInRange_iff s).mp (h.ranges r)).1

/-- R87, R89, R90: closing a stream, or emptying it, keeps its counts in range. -/
theorem StreamFits.emptied {reload : Nat} {st : Stream} (h : StreamFits reload st) {state : StreamState}
    (calm : state ≠ .releasing) (held pending : SlotSet) (queue : List (List Byte)) (inFlight : Option InFlight) :
    StreamFits reload { st with
      state := state, held := held, pending := pending, queue := queue, inFlight := inFlight } := by
  obtain ⟨wanted, attempts, backoff, stall, closing⟩ := h
  exact ⟨wanted, attempts, backoff, stall, closing.1, fun releasing => absurd releasing calm⟩

theorem enterOffline_mapAgrees {ranged : Prop} {s : State} (fits : ranged → CountsFit s) : MapAgrees ranged s.enterOffline := by
  have clear : MapClear s.enterOffline.map := fun k => by simp [State.enterOffline, SlotMap.cleared]
  refine .of_empty (fun n => ?_) rfl (fun k => ?_) (fun _ => clear) fun r => ⟨(fits r).1, fun n => ?_⟩
  · rw [enterOffline_stream, offline_eq]; exact ⟨rfl, rfl⟩
  · rw [clear k]; rfl
  · rw [enterOffline_stream, offline_eq]
    exact ((fits r).2 n).emptied (state := .closed) nofun 0 0 [] none

theorem leaveEnds_mapAgrees {ranged : Prop} {s : State} (fits : ranged → CountsFit s) : MapAgrees ranged s.leaveEnds :=
  (enterOffline_mapAgrees fits).of_view rfl

theorem MapAgrees.leaveIfDone {ranged : Prop} {s : State} (h : MapAgrees ranged s) : MapAgrees ranged s.leaveIfDone := by
  unfold State.leaveIfDone
  split
  · exact leaveEnds_mapAgrees h.countsFit
  · exact h

theorem MapAgrees.clash {ranged : Prop} {s : State} (h : MapAgrees ranged s) : MapAgrees ranged s.clash := by
  simp only [State.clash]
  generalize cleared : State.updateStreams _ _ = u
  have fits (r : ranged) : CountsFit u := by
    have setup : u.setup = s.setup := by
      rw [← cleared, State.updateStreams_setup, State.detach_setup]
    rw [CountsFit, setup]
    refine ⟨(h.countsFit r).1, fun n => ?_⟩
    have stream : u.streams[n] = { s.streams[n] with held := 0, pending := 0 } := by
      rw [← cleared, State.updateStreams_get, State.detach_streams]
    obtain ⟨wanted, attempts, backoff, stall, closing⟩ := (h.countsFit r).2 n
    rw [stream]
    exact ⟨wanted, attempts, backoff, stall, closing⟩
  exact (enterOffline_mapAgrees fits).of_view rfl

/-- A change of station state that ends outside INITIALISING and OFFLINE. -/
theorem MapAgrees.changeState {ranged : Prop} {s t : State} (h : MapAgrees ranged s)
    (view : mapView t = { mapView s with state := t.station.state }) (rests : Resting t → Resting s) : MapAgrees ranged t := by
  have same : mapView { t with station := s.station } = mapView s := by
    show { mapView t with state := s.station.state } = _
    rw [view]; rfl
  obtain ⟨-, ⟨closed, claim, record, flight, differ⟩, mirror, ranges⟩ := h.of_view same
  refine ⟨fun rest => ?_, ⟨closed, claim, record, flight, differ⟩, mirror, fun r => ?_⟩
  · obtain ⟨clear, lists, ann⟩ := (h.of_view same).rests (rests rest)
    exact ⟨clear, lists, ann⟩
  · obtain ⟨reload, wanted, lists, total, attempts, backoff, claiming, stall, closing, objects⟩ := ranges r
    exact ⟨reload, wanted, lists, total, attempts, backoff, claiming, stall, closing, objects⟩

theorem detach_all_ownStream (own : Nat) (e : EntryState) : (e.detach own fun _ => true).ownStream own = none := by
  cases e <;> simp [EntryState.detach, EntryState.ownStream] <;> tauto

theorem enterMuted_mapAgrees {ranged : Prop} {s : State} (fits : ranged → CountsFit s) : MapAgrees ranged s.enterMuted := by
  have muted (n : StreamNo) : s.enterMuted.streams[n] = s.streams[n].muted := by
    rw [State.enterMuted, State.latches_streams, State.updateStreams_get]
    simp only [State.endAttempt, State.setTransmit, State.detach]
  have setup : s.enterMuted.setup = s.setup := enterMuted_setup s
  refine .of_empty (fun n => ?_) (by simp [State.enterMuted]) (fun k => ?_) (fun rest => ?_) fun r => ?_
  · rw [muted, muted_eq]; exact ⟨rfl, rfl⟩
  · rw [enterMuted_map, State.own, setup, State.detach_map, SlotMap.detach, updateStates_get]
    exact detach_all_ownStream _ _
  · simp [Resting] at rest
  · rw [CountsFit, setup]
    refine ⟨(fits r).1, fun n => ?_⟩
    rw [muted, muted_eq]
    exact ((fits r).2 n).emptied (by split <;> nofun) 0 0 _ _

/-! ### Boundaries -/

/-- R42: detaching takes the entry from every list. -/
theorem own_detach (own : Nat) (p : StreamNo → Bool) (e : EntryState) (n : StreamNo) :
    ((e.detach own p).ownHeld own == some n) = (!p n && e.ownHeld own == some n) ∧
    ((e.detach own p).ownPending own == some n) = (!p n && e.ownPending own == some n) := by
  have listed (o : Nat) (m : StreamNo) (d : Bool) :
      ((if o = own ∧ (d || (o == own && p m)) = false then some m else none) == some n) =
        (!p n && (if o = own ∧ d = false then some m else none) == some n) := by
    by_cases here : m = n
    · subst here
      by_cases mine : o = own <;> cases d <;> cases p m <;> simp [mine]
    · have apart (q : Prop) [Decidable q] : ((if q then some m else none) == some n) = false := by
        split
        · exact beq_eq_false_iff_ne.mpr fun same => here (Option.some.inj same)
        · rfl
      rw [apart, apart, Bool.and_false]
  cases e with
  | free | quarantine c => simp [EntryState.detach, EntryState.ownHeld, EntryState.ownPending]
  | pending o m c d => exact ⟨by simp [EntryState.detach, EntryState.ownHeld], listed o m d⟩
  | held o m silent d => exact ⟨listed o m d, by simp [EntryState.detach, EntryState.ownPending]⟩

/-- R25, R26: the own entries after a boundary. -/
theorem own_agedState (own lease : Nat) (e : Entry) (n : StreamNo) :
    ((agedState lease e).ownHeld own == some n) =
      (((e.state.ownHeld own == some n) || (e.confirms && e.state.ownPending own == some n)) &&
        !(e.lapses lease && e.state.ownHeld own == some n)) ∧
    ((agedState lease e).ownPending own == some n) =
      ((e.state.ownPending own == some n) && !(e.confirms && e.state.ownPending own == some n)) := by
  unfold agedState Entry.confirms Entry.lapses
  cases e.state with
  | free => exact ⟨rfl, rfl⟩
  | quarantine c => dsimp only; split <;> exact ⟨rfl, rfl⟩
  | pending o m c d =>
    dsimp only
    by_cases last : c ≤ 1
    · have due : (c - 1 == 0) = true := by simp; omega
      rw [if_pos last, due]
      simp [EntryState.ownHeld, EntryState.ownPending]
    · have waits : (c - 1 == 0) = false := by simp; omega
      rw [if_neg last, waits]
      simp [EntryState.ownHeld, EntryState.ownPending]
  | held o m silent d =>
    dsimp only
    cases e.heard with
    | true => simp [EntryState.ownHeld, EntryState.ownPending]
    | false =>
      cases e.reached with
      | false => simp [EntryState.ownHeld, EntryState.ownPending]
      | true =>
        by_cases lapses : silent + 1 = lease <;> simp [EntryState.ownHeld, EntryState.ownPending, lapses]

theorem boundary_entry (s : State) (k : Slot) (m : State) {err : Bool} (h : BoundaryReached s err m) :
    m.map[k].state = (agedState s.setup.leaseLimit s.map[k]).detach s.own fun n => decide (ReachesCloseLimit s n) := by
  rw [h.map, SlotMap.detach, updateStates_get, boundary_get]

/-- R28, R42, R85, R86, R88: a boundary's reports and its silent releases are what it makes of the own entries. -/
theorem boundary_mirror {s m : State} {err : Bool} (h : BoundaryReached s err m) (mirror : ListsMirrorMap s) :
    ListsMirrorMap m := by
  intro n k
  obtain ⟨held, pending⟩ := mirror n k
  obtain ⟨detachedHeld, detachedPending⟩ := own_detach s.own (fun n => decide (ReachesCloseLimit s n))
    (agedState s.setup.leaseLimit s.map[k]) n
  obtain ⟨agedHeld, agedPending⟩ := own_agedState s.own s.setup.leaseLimit s.map[k] n
  have apart : (SlotSet.has s.streams[n].held k && SlotSet.has s.streams[n].pending k) = false := by
    rw [held, pending]
    rcases ownHeld_or_ownPending s.own s.map[k].state with none | none <;> rw [none]
    · rfl
    · exact Bool.and_false _
  have own : m.own = s.own := by rw [State.own, h.setup]; rfl
  have lapsed : SlotSet.has (lapsedTo s n) k =
      (s.map[k].lapses s.setup.leaseLimit && s.map[k].state.ownHeld s.own == some n) := SlotSet.has_ofPred _ _
  have confirmed : SlotSet.has (confirmedTo s n) k = (s.map[k].confirms && s.map[k].state.ownPending s.own == some n) :=
    SlotSet.has_ofPred _ _
  rw [boundary_entry s k m h, own, detachedHeld, detachedPending, agedHeld, agedPending, ← held, ← pending] at *
  rw [h.streams]
  by_cases reaches : ReachesCloseLimit s n
  · obtain ⟨-, noHeld, noPending⟩ := boundaryStream_closed reaches
    rw [noHeld, noPending, SlotSet.has_zero, decide_eq_true reaches]
    exact ⟨rfl, rfl⟩
  · obtain ⟨newHeld, newPending, -⟩ := boundaryStream_lists reaches
    rw [newHeld, newPending, decide_eq_false reaches]
    simp only [SlotSet.has_without, SlotSet.has_or, lapsed, confirmed, Bool.not_false, Bool.true_and, true_and]
    generalize SlotSet.has s.streams[n].held k = inHeld at apart ⊢
    generalize SlotSet.has s.streams[n].pending k = inPending at apart ⊢
    cases inHeld
    · simp
    · rw [Bool.true_and] at apart
      simp [apart]

/-- R25: a boundary makes no entry the station's own. -/
theorem boundary_ownStream {s m : State} {err : Bool} (h : BoundaryReached s err m) {k : Slot} {n : StreamNo}
    (owned : m.map[k].state.ownStream m.own = some n) : s.map[k].state.ownStream s.own = some n := by
  obtain ⟨detachedHeld, detachedPending⟩ := own_detach s.own (fun n => decide (ReachesCloseLimit s n))
    (agedState s.setup.leaseLimit s.map[k]) n
  obtain ⟨agedHeld, agedPending⟩ := own_agedState s.own s.setup.leaseLimit s.map[k] n
  have own : m.own = s.own := by rw [State.own, h.setup]; rfl
  rw [ownStream_iff, own, boundary_entry s k m h, ← beq_iff_eq, ← beq_iff_eq (a := EntryState.ownPending _ _), detachedHeld,
    detachedPending, agedHeld, agedPending] at owned
  rw [ownStream_iff, ← beq_iff_eq, ← beq_iff_eq (a := EntryState.ownPending _ _)]
  simp only [Bool.and_eq_true, Bool.or_eq_true] at owned
  rcases owned with ⟨-, held | ⟨-, pending⟩, -⟩ | ⟨-, pending, -⟩
  · exact .inl held
  · exact .inr pending
  · exact .inr pending

/-- R66, R73, R88: the counts of a stream at a boundary. -/
theorem boundaryStream_fits {s : State} (fits : CountsFit s) (n : StreamNo) :
    StreamFits s.setup.attemptReload (boundaryStream s n) := by
  obtain ⟨⟨reload, -⟩, fits⟩ := fits
  obtain ⟨wanted, attempts, ⟨backoff, iff⟩, stall, closing⟩ := fits n
  have sameBackoff : (reportedStream (confirmedTo s n) (lapsedTo s n) s.streams[n]).backoff = s.streams[n].backoff := rfl
  have sameAttempts : (reportedStream (confirmedTo s n) (lapsedTo s n) s.streams[n]).attempts = s.streams[n].attempts := rfl
  have sameCount : (reportedStream (confirmedTo s n) (lapsedTo s n) s.streams[n]).closeCount = s.streams[n].closeCount := rfl
  have sameStall : (reportedStream (confirmedTo s n) (lapsedTo s n) s.streams[n]).stall = s.streams[n].stall := rfl
  have releasing := reportedStream_releasing (confirmedTo s n) (lapsedTo s n) s.streams[n]
  refine ⟨wanted, ?_, ?_, ?_, ?_⟩
  · simp only [boundaryStream, sameBackoff, sameAttempts]
    split <;> omega
  · simp only [boundaryStream, sameBackoff, sameAttempts]
    by_cases closed : s.streams[n].state = .closed
    · simp only [closed, ne_eq, not_true_eq_false, false_and, if_true, if_false]
      exact ⟨backoff, iff⟩
    · by_cases last : s.streams[n].backoff = 1
      · simp only [closed, last, ne_eq, not_false_eq_true, and_self, if_true, if_false]
        exact ⟨by omega, iff_of_false (by omega) (by simp)⟩
      · simp only [closed, last, and_false, if_false]
        omega
  · simp only [boundaryStream, sameStall]
    split
    · next counts =>
      have below := (Bool.and_eq_true _ _ ▸ counts).2
      exact of_decide_eq_true below
    · exact stall
  · simp only [boundaryStream, sameCount, releasing]
    by_cases waits : s.streams[n].state = .releasing
    · have below := closing.2 waits
      rw [if_pos waits]
      refine ⟨by omega, fun still => ?_⟩
      by_contra full
      rw [if_pos ⟨waits, by omega⟩] at still
      cases still
    · rw [if_neg waits, if_neg (fun reaches => waits reaches.1), releasing]
      exact closing

theorem boundary_grounds {ranged : Prop} {s m : State} {err : Bool} (h : BoundaryReached s err m) (agrees : MapAgrees ranged s)
    (silent : s.ann.offer = none) : Grounds s m := by
  have mirror := boundary_mirror h agrees.mirror
  have slots (n : StreamNo) : within m.streams[n].slots s.streams[n].slots := fun k has =>
    (has_slots_mirror agrees.mirror n k).mpr (boundary_ownStream h ((has_slots_mirror mirror n k).mp has))
  have sublist : m.ann.queue.Sublist s.ann.queue := by rw [h.queue]; exact List.filter_sublist
  refine ⟨h.setup, h.offer.trans silent, mirror, slots, fun n => ?_, fun n shut => ?_, fun n set mem => ?_, ?_, fun objects => ?_⟩
  · rw [h.streams]; rfl
  · rw [h.streams] at shut ⊢
    by_cases reaches : ReachesCloseLimit s n
    · exact .inr (boundaryStream_closed reaches).2
    · refine .inl ?_
      by_contra was
      rw [(boundaryStream_lists reaches).2.2] at shut
      split at shut
      · have isOpen := derivedState_open (boundaryStream s n).held s.streams[n].wanted s.streams[n]
        simp only [StreamIsOpen, shut, reduceCtorEq, or_self] at isOpen
      · exact was shut
  · rw [h.queue, List.mem_filter] at mem
    obtain ⟨releasing, covers⟩ := agrees.releases.record_covers n set mem.1
    have stays : ¬ ReachesCloseLimit s n := by simpa only [releaseOf, Option.all_some, Bool.not_eq_true', decide_eq_false_iff_not] using mem.2
    refine ⟨?_, within_trans (slots n) covers⟩
    have closed : ¬ StreamIsOpen s.streams[n] := by rw [StreamIsOpen, releasing]; simp
    rw [h.streams, (boundaryStream_lists stays).2.2, if_neg (fun h => closed h.1), releasing]
  · exact agrees.releases.records_differ.sublist (sublist.filterMap _)
  · exact objects.sublist (sublist.filterMap _)

theorem releasedSilently_countsFit (p : StreamNo → Bool) {s : State} (fits : CountsFit s) :
    CountsFit (releasedSilently p s.takeVerdict) := by
  have setup : (releasedSilently p s.takeVerdict).setup = s.setup := by simp only [releasedSilently]; rfl
  have released (n : StreamNo) : (releasedSilently p s.takeVerdict).streams[n] =
      if p n = true then s.streams[n].close else s.streams[n] := by
    simp [releasedSilently, State.takeVerdict]
  rw [CountsFit, setup]
  refine ⟨fits.1, fun n => ?_⟩
  rw [released]
  split
  · exact (fits.2 n).emptied (state := .closed) nofun 0 0 _ _
  · exact fits.2 n

theorem stationBoundary_mapAgrees {ranged : Prop} {m : State} (h : MapAgrees ranged m) (kind : BoundaryKind)
    (awake : ¬ Resting m) : MapAgrees ranged (State.stationBoundary kind m.station.state m) := by
  cases state : m.station.state with
  | initialising => exact absurd (.inl state) awake
  | offline => exact absurd (.inr state) awake
  | listening =>
    simp only [State.stationBoundary]
    cases kind with
    | synthesized => exact h.of_view rfl
    | heard =>
      dsimp only
      split
      · exact h.changeState rfl (by simp [Resting, State.join, State.latches, State.causes])
      · exact h.of_view rfl
  | active =>
    simp only [State.stationBoundary]
    split
    · exact enterMuted_mapAgrees fun r => h.countsFit r
    · exact h.of_view rfl
  | leaving =>
    simp only [State.stationBoundary]
    split
    · rw [silentReleaseAll_eq]
      exact leaveEnds_mapAgrees fun r => releasedSilently_countsFit _ (h.countsFit r)
    · exact MapAgrees.leaveIfDone (h.of_view rfl)
  | muted =>
    simp only [State.stationBoundary]
    split
    · exact h.changeState rfl (by simp [Resting, State.rejoin])
    · exact h.of_view rfl

/-- R5, R14: a boundary. -/
theorem MapAgrees.boundary {ranged : Prop} {s : State} (h : MapAgrees ranged s) (line : LineAgrees s)
    (still : s.line.transmit = .idle ∨ s.line.transmit = .driving .brk) (awake : ¬ Resting s) (kind : BoundaryKind) :
    MapAgrees ranged (State.boundary kind s) := by
  have silent : s.ann.offer = none := by
    have view : (attemptView s).transmit = .idle ∨ (attemptView s).transmit = .driving .brk := still
    rcases view with idle | own
    · exact (line.nothing_flies (by rw [idle]; rfl) (by rw [idle]; rfl)).1
    · exact (line.nothing_flies (by rw [own]; rfl) (by rw [own]; rfl)).1
  have reached := beforeStation_reached s kind .heardBoundary
  rw [boundary_eq]
  show MapAgrees ranged (State.noteChanges s (State.stationBoundary kind s.station.state (beforeStation kind s)))
  have same : boundaryState s .heardBoundary = s := rfl
  rw [same] at reached
  generalize beforeStation kind s = m at reached
  have awake' : ¬ Resting m := by rwa [Resting, reached.station]
  have grounds := boundary_grounds reached h silent
  have agrees : MapAgrees ranged m := h.ground grounds (fun inRange => ?_) awake'
  · have moved := stationBoundary_mapAgrees agrees kind awake'
    rw [reached.station] at moved
    exact moved.of_view rfl
  · obtain ⟨fits, -⟩ := (streamsInRange_iff s).mp inRange
    rw [CountsFit, reached.setup]
    refine ⟨fits.1, fun n => ?_⟩
    rw [reached.streams]
    exact boundaryStream_fits fits n

end Sys2Proof.Proofs
end

section
/-! SUPPORT. Map and streams agree after the events of the cycle, at the starts of slots, and after an own slot frame. -/

namespace Sys2Proof.Proofs

open Sys2Proof Sys2Proof.Machine Sys2Proof.Safety

/-! ### Operations that leave the view -/

section Same
variable (s : State)

@[simp] theorem mapView_changing (f : State → State) : mapView (State.changing f s) = mapView (f s) := rfl
@[simp] theorem mapView_causes (m : BitVec 66) : mapView (State.causes m s) = mapView s := rfl
@[simp] theorem mapView_latches (f : Flag) : mapView (State.latches f s) = mapView s := rfl
@[simp] theorem mapView_atRun (run : Nat) : mapView (State.atRun run s) = mapView s := rfl
@[simp] theorem mapView_noteRun (rx : Option Stretch) : mapView (State.noteRun rx s) = mapView s := rfl
@[simp] theorem mapView_atPosition (p : Nat) : mapView (State.atPosition p s) = mapView s := rfl
@[simp] theorem mapView_clearLostNote : mapView (State.clearLostNote s) = mapView s := rfl
@[simp] theorem mapView_openSegment (g : Segment) : mapView (State.openSegment g s) = mapView s := rfl
@[simp] theorem mapView_endFrame : mapView (State.endFrame s) = mapView s := rfl
@[simp] theorem mapView_endAttempt : mapView (State.endAttempt s) = mapView s := rfl
@[simp] theorem mapView_handOver (a : Attempt) : mapView (State.handOver a s) = mapView s := rfl
@[simp] theorem mapView_setTransmit (x : Transmit) (l : Level) : mapView (State.setTransmit x l s) = mapView s := rfl
@[simp] theorem mapView_assembled (a : Attempt) (bit : Nat) : mapView (State.assembled a bit s) = mapView s := rfl
@[simp] theorem mapView_takeVerdict : mapView s.takeVerdict = mapView s := rfl

theorem mapView_modifyStream (n : StreamNo) {f : Stream → Stream} (keeps : ∀ st, listsOf (f st) = listsOf st) :
    mapView (State.modifyStream n f s) = mapView s := by
  have lists (m : StreamNo) : listsOf (State.modifyStream n f s).streams[m] = listsOf s.streams[m] := by
    rw [State.modifyStream, vector_set_get]
    split
    · next here => rw [keeps, here]
    · rfl
  simp only [mapView, lists]; rfl

@[simp] theorem mapView_rxError : mapView (State.rxError s) = mapView s := by rw [rxError_eq]; rfl

@[simp] theorem mapView_beginCharacter (r : Reception) : mapView (State.beginCharacter r s) = mapView s := by
  unfold State.beginCharacter
  split
  · split
    · rfl
    · exact mapView_rxError s
    · rfl
  · rfl

@[simp] theorem mapView_noteReception (rx : Option Stretch) : mapView (State.noteReception rx s) = mapView s := by
  unfold State.noteReception
  split
  · rfl
  · dsimp only
    split <;> exact mapView_beginCharacter s _

@[simp] theorem mapView_noCharacter : mapView (State.noCharacter s) = mapView s := by
  unfold State.noCharacter; split <;> rfl

@[simp] theorem mapView_closeSegment (rx : Option Stretch) : mapView (State.closeSegment rx s) = mapView s := by
  simp [State.closeSegment, apply_ite mapView]

@[simp] theorem mapView_settleMark : mapView (State.settleMark s) = mapView s := by
  unfold State.settleMark; split <;> rfl

@[simp] theorem mapView_takeMark (sender : Nat) : mapView (State.takeMark sender s) = mapView s := by
  unfold State.takeMark; split <;> rfl

@[simp] theorem mapView_rearm : mapView (State.rearm s) = mapView s := by
  unfold State.rearm; split <;> rfl

@[simp] theorem mapView_expire (run : Nat) : mapView (State.expire run s) = mapView s := by rw [expire_eq]; rfl

@[simp] theorem mapView_runOver (run : Nat) : mapView (State.runOver run s) = mapView s := by
  unfold State.runOver; split <;> rfl

@[simp] theorem mapView_runSettled : mapView (State.runSettled s) = mapView s := by
  unfold State.runSettled
  split
  · rw [mapView_rearm]; rfl
  · rfl

@[simp] theorem mapView_breakFault (bit : Nat) : mapView (State.breakFault bit s) = mapView s := by
  simp only [State.breakFault]
  split
  · rfl
  · rw [mapView_rearm]; rfl

@[simp] theorem mapView_handBreak : mapView (State.handBreak s) = mapView s := by
  unfold State.handBreak; split <;> rfl

@[simp] theorem mapView_drive (run : Nat) (rx : Option Stretch) (a : Attempt) :
    mapView (State.drive run rx a s) = mapView s := by
  simp [State.drive, apply_ite mapView]

@[simp] theorem mapView_tapTake (f : SlotFrame) : mapView (State.tapTake f s) = mapView s := by
  have account (t : TapNo) (seq next : Byte) (u : State) : mapView (State.tapAccount t seq next u) = mapView u := by
    simp only [State.tapAccount]; split <;> rfl
  have queue (t : TapNo) (frame : RxFrame) (u : State) : mapView (State.tapQueue t frame u) = mapView u := by
    simp only [State.tapQueue]; split_ifs <;> rfl
  unfold State.tapTake
  split
  · rfl
  · split
    · rw [queue, account]
    · rw [account]

@[simp] theorem mapView_dataComplete (n : StreamNo) : mapView (State.dataComplete n s) = mapView s := by
  have sent := mapView_modifyStream (State.returnBuffers (if s.streams[n].inFlight.isSome then 1 else 0) s) n
    (f := Stream.sentOne) fun _ => rfl
  simp only [State.dataComplete]
  split <;> exact sent

@[simp] theorem mapView_countChoice (free : Nat) : mapView (State.countChoice free s) = mapView s := by
  unfold State.countChoice; split <;> rfl

theorem mapView_discardQueue (n : StreamNo) : mapView (State.discardQueue n s) = mapView s :=
  mapView_modifyStream (State.returnBuffers s.streams[n].queue.length s) n (f := fun st => { st with queue := [] }) fun _ => rfl

theorem mapView_flush (n : StreamNo) : mapView (State.flush n s) = mapView s := by
  rw [State.flush, mapView_modifyStream _ n (f := Stream.discardInFlight) fun _ => rfl, mapView_discardQueue]

/-- R41: an event in the map is no more than that to the view. -/
theorem mapView_changeMap (f : SlotMap → SlotMap) :
    mapView (State.changeMap f s) = mapView { s with map := f s.map } := by
  simp only [mapView, changeMap_eq]

@[simp] theorem mapView_supply (k : Slot) : mapView (State.supply k s) = mapView s := by
  unfold State.supply
  split
  · split
    · simp only [State.supplyFrame]
      split
      · rfl
      · split
        · rw [mapView_handOver]
          exact mapView_modifyStream s _ fun _ => rfl
        · rfl
    · rfl
  · rfl

end Same

/-! ### Cycle events -/

theorem awake_of_running {s : State} (line : LineAgrees s) (running : s.timer.running = true) : ¬ Resting s := fun rest => by
  have stopped := (line.rests rest).1
  rw [show (attemptView s).running = s.timer.running from rfl, running] at stopped
  cases stopped

theorem awake_of_receiver {s : State} (line : LineAgrees s) (on : s.line.receiver = true) : ¬ Resting s := fun rest => by
  have off := (line.rests rest).2.2
  rw [show (attemptView s).receiver = s.line.receiver from rfl, on] at off
  cases off

theorem recogniseBreak_mapAgrees {ranged : Prop} {s : State} (h : MapAgrees ranged s) (line : LineAgrees s)
    (rx : Option Stretch) : MapAgrees ranged (State.recogniseBreak rx s) := by
  have cut : MapAgrees ranged s.cut := by
    rw [cut_eq]
    cases cuts : cutAttempt s.line.transmit with
    | none => exact h
    | some a => exact h.attemptEnds line (current_of_cut cuts) (attemptReturns_ends a s)
  unfold State.recogniseBreak
  split
  · have closed : mapView (State.settleMark (State.breakSegment rx s.cut)) = mapView s.cut := by
      simp [State.breakSegment, apply_ite mapView]
    exact cut.of_view closed
  · exact h

theorem loneStartReport_mapAgrees {ranged : Prop} {s : State} (h : MapAgrees ranged s) :
    MapAgrees ranged s.loneStartReport := by
  have active : MapAgrees ranged (State.latches .joined { s with
      station := { s.station with state := .active, startedTrunk := true }
      timer := { s.timer with loneStart := 0 } }) := h.changeState rfl (by simp [Resting])
  exact active.of_view (mapView_handBreak _)

theorem markTimerExpiry_mapAgrees {ranged : Prop} {s : State} (h : MapAgrees ranged s) (line : LineAgrees s) (run : Nat)
    (rx : Option Stretch) : MapAgrees ranged (State.markTimerExpiry run rx s) := by
  have expired : MapAgrees ranged (State.expire run s) := h.of_view (mapView_expire s run)
  unfold State.markTimerExpiry
  split
  · dsimp only
    split
    · split
      · exact expired.of_view (mapView_handBreak _)
      · exact expired.of_view (mapView_handBreak _)
      · next muted =>
        have lineExpired : LineAgrees (State.noteReception rx (State.expire run s)) := line.of_view (by simp)
        have state : (State.noteReception rx (State.expire run s)).station.state = .muted :=
          (congrArg AttemptView.state (show attemptView (State.noteReception rx (State.expire run s)) = attemptView s by simp)).trans
            muted
        refine MapAgrees.boundary (h.of_view (by simp)) lineExpired (.inl ?_) (by simp [Resting, state]) _
        exact (lineExpired.idle_of_still (by simp [AttemptView.drives, attemptView, state])).1
      · exact expired
    · exact expired.of_view rfl
  · exact h

theorem loneStart_mapAgrees {ranged : Prop} {s : State} (h : MapAgrees ranged s) (run : Nat) :
    MapAgrees ranged (State.loneStart run s) := by
  unfold State.loneStart
  split
  · dsimp only
    split
    · exact loneStartReport_mapAgrees (h.of_view (by simp))
    · exact h.of_view rfl
  · exact h

theorem shortRunEnd_mapAgrees {ranged : Prop} {s : State} (h : MapAgrees ranged s) (line : LineAgrees s) (run : Nat)
    (stopBit : Bool) : MapAgrees ranged (State.shortRunEnd run stopBit s) := by
  simp only [State.shortRunEnd]
  split
  · have ended : MapAgrees ranged (State.runSettled (State.runOver run (State.atRun 0
        (if framingRun run stopBit = true then State.rxError s.settle else s.settle)))) :=
      (h.settle line).of_view (by simp [apply_ite mapView])
    generalize State.runSettled _ = u at ended ⊢
    unfold State.loneStartSettled
    split
    · exact loneStartReport_mapAgrees ended
    · exact ended
  · exact h

theorem boundaryWith_mapAgrees {ranged : Prop} {s : State} (h : MapAgrees ranged s) (line : LineAgrees s)
    (p : BoundaryKind → Bool) : MapAgrees ranged (State.boundaryWith p s) := by
  unfold State.boundaryWith
  split
  · next kind found =>
    split
    · have due := ((boundaryDue_eq_some s kind).mp found).1
      refine h.boundary line (still_of_due line due) (awake_of_running line ?_) _
      cases kind with
      | heard => exact due.1
      | synthesized => exact due.1
    · exact h
  · exact h

/-! ### Own slots -/

/-- An event in the map that leaves every list's entries. -/
theorem MapAgrees.changeEntries {ranged : Prop} {s : State} (h : MapAgrees ranged s) (awake : ¬ Resting s) (m : SlotMap)
    (own : ∀ k : Slot, m[k].state.ownHeld s.own = s.map[k].state.ownHeld s.own ∧
      m[k].state.ownPending s.own = s.map[k].state.ownPending s.own) : MapAgrees ranged { s with map := m } := by
  refine h.shrink ⟨rfl, rfl, fun n => within_refl _, fun n => ⟨Iff.rfl, Iff.rfl⟩, fun n => ⟨rfl, rfl, rfl, rfl, rfl⟩⟩
    (fun n k => ?_) awake
  obtain ⟨held, pending⟩ := own k
  show _ = (m[k].state.ownHeld s.own == some n) ∧ _ = (m[k].state.ownPending s.own == some n)
  rw [held, pending]
  exact h.mirror n k

theorem startSegment_mapAgrees {ranged : Prop} {s : State} (h : MapAgrees ranged s) (line : LineAgrees s) (g : Segment)
    (position : Nat) (rx : Option Stretch) : MapAgrees ranged (State.startSegment g position rx s) := by
  have before : mapView (State.noteRun rx (State.settleMark (State.closeSegment rx s.settle))) = mapView s.settle := by simp
  exact (h.settle line).of_view before

theorem slotStart_mapAgrees {ranged : Prop} {s : State} (h : MapAgrees ranged s) (line : LineAgrees s) (k : Slot)
    (rx : Option Stretch) : MapAgrees ranged (State.slotStart k rx s) := by
  unfold State.slotStart
  split
  · next reported =>
    have started := startSegment_mapAgrees h line (.slot k) (slotStartAt k) rx
    have lineStarted := (startSegment_agrees line (.slot k) rx reported).1
    have awake : ¬ Resting (State.startSegment (.slot k) (slotStartAt k) rx s) := by
      have state : (State.startSegment (.slot k) (slotStartAt k) rx s).station.state = s.station.state :=
        state_of_view (rangeView_startSegment s _ _ _)
      rw [Resting, state]
      exact awake_of_running line (quiet_of_reportsStart reported).1
    dsimp only
    refine MapAgrees.of_view ?_ (mapView_supply _ k)
    refine MapAgrees.changeEntries (s := State.clearLostNote (State.startSegment (.slot k) (slotStartAt k) rx s))
      (started.of_view rfl) awake _ fun j => ?_
    have marks : ((State.clearLostNote (State.startSegment (.slot k) (slotStartAt k) rx s)).map.reach k)[j].state =
        (State.clearLostNote (State.startSegment (.slot k) (slotStartAt k) rx s)).map[j].state := by
      rw [SlotMap.reach, vector_set_get]
      split
      · next here => rw [here]
      · rfl
    rw [marks]
    exact ⟨rfl, rfl⟩
  · exact h

theorem gapStart_mapAgrees {ranged : Prop} {s : State} (h : MapAgrees ranged s) (line : LineAgrees s) (rx : Option Stretch) :
    MapAgrees ranged (State.gapStart rx s) := by
  unfold State.gapStart
  split
  · exact startSegment_mapAgrees h line _ _ rx
  · exact h

/-- R31, R94, R108: an own slot frame that has gone out. -/
theorem frameComplete_mapAgrees {ranged : Prop} {s : State} (h : MapAgrees ranged s) (awake : ¬ Resting s) (k : Slot)
    (f : SlotFrame) : MapAgrees ranged (State.frameComplete k f s) := by
  have heard : MapAgrees ranged (State.hearOwnFrame k s) := by
    refine h.changeEntries awake _ fun j => ?_
    have same (e : EntryState) : e.heardOwn.ownHeld s.own = e.ownHeld s.own ∧ e.heardOwn.ownPending s.own = e.ownPending s.own := by
      cases e <;> exact ⟨rfl, rfl⟩
    rw [SlotMap.hearOwn, vector_set_get]
    split
    · next here => rw [here]; exact same _
    · exact ⟨rfl, rfl⟩
  refine heard.of_view ?_
  simp only [State.frameComplete]
  split
  · simp
  · rw [mapView_countChoice]; split <;> simp

end Sys2Proof.Proofs
end

section
/-! SUPPORT. Map and streams agree after the frames of other stations. -/

namespace Sys2Proof.Proofs

open Sys2Proof Sys2Proof.Machine Sys2Proof.Safety

/-! ### Slots that other stations take -/

theorem derived_closed_iff (st : Stream) (held : SlotSet) (wanted : Nat) :
    (if StreamIsOpen st then derivedState held wanted else st.state) = .closed ↔ st.state = .closed := by
  by_cases isOpen : StreamIsOpen st
  · rw [if_pos isOpen]
    have wasOpen : st.state ≠ .closed := by rcases isOpen with h | h | h <;> rw [h] <;> nofun
    refine iff_of_false ?_ wasOpen
    unfold derivedState; split_ifs <;> nofun
  · rw [if_neg isOpen]

theorem streamsAfterLoss_get (s : State) (k : Slot) (n : StreamNo) : (streamsAfterLoss s k)[n] =
    if s.map[k].state.ownStream s.own = some n then lostSlotStream k s.streams[n] else s.streams[n] := by
  have owner : ownStreamAt s k = s.map[k].state.ownStream s.own := rfl
  rw [streamsAfterLoss, owner]
  cases s.map[k].state.ownStream s.own with
  | none => rw [if_neg nofun]
  | some m =>
    simp only [vector_set_get, Option.some.injEq, eq_comm (a := m)]
    split
    · next here => rw [here]
    · rfl

/-- R30, R39, R86: slot k becomes another station's, and its stream loses it. -/
theorem MapAgrees.loseSlot {ranged : Prop} {s : State} (h : MapAgrees ranged s) (awake : ¬ Resting s) (k : Slot) {e : Entry}
    (foreign : e.state.ownStream s.own = none) :
    MapAgrees ranged { s with map := s.map.set k e, streams := streamsAfterLoss s k } := by
  obtain ⟨noHeld, noPending⟩ := (own_none_iff _ _).mp foreign
  have lost (n : StreamNo) := streamsAfterLoss_get s k n
  refine h.shrink ⟨rfl, rfl, fun n => ?_, fun n => ?_, fun n => ?_⟩ (fun n j => ?_) awake
  · intro j
    show SlotSet.has (streamsAfterLoss s k)[n].slots j = true → _
    rw [lost]
    split
    · simp only [has_slots, lostSlotStream, SlotSet.has_without, Bool.or_eq_true, Bool.and_eq_true]
      exact fun has => has.imp And.left And.left
    · exact id
  · show ((streamsAfterLoss s k)[n].state = _ ↔ _) ∧ ((streamsAfterLoss s k)[n].state = _ ↔ _)
    rw [lost]
    split
    · exact ⟨derived_closed_iff _ _ _, derived_releasing_iff _ _ _⟩
    · exact ⟨Iff.rfl, Iff.rfl⟩
  · show (streamsAfterLoss s k)[n].wanted = _ ∧ (streamsAfterLoss s k)[n].attempts = _ ∧ (streamsAfterLoss s k)[n].backoff = _ ∧
      (streamsAfterLoss s k)[n].stall = _ ∧ (streamsAfterLoss s k)[n].closeCount = _
    rw [lost]
    split <;> exact ⟨rfl, rfl, rfl, rfl, rfl⟩
  · obtain ⟨held, pending⟩ := h.mirror n j
    show SlotSet.has (streamsAfterLoss s k)[n].held j = ((s.map.set k e)[j].state.ownHeld s.own == some n) ∧
      SlotSet.has (streamsAfterLoss s k)[n].pending j = ((s.map.set k e)[j].state.ownPending s.own == some n)
    rw [lost, vector_set_get]
    by_cases here : j = k
    · subst here
      rw [if_pos rfl, noHeld, noPending]
      split
      · simp only [lostSlotStream, SlotSet.has_without, SlotSet.has_only, decide_true, Bool.not_true, Bool.and_false]
        exact ⟨rfl, rfl⟩
      · next other =>
        rw [ownStream_iff, not_or] at other
        rw [held, pending, beq_eq_false_iff_ne.mpr other.1, beq_eq_false_iff_ne.mpr other.2]
        exact ⟨rfl, rfl⟩
    · have apart : decide (k = j) = false := decide_eq_false (Ne.symm here)
      rw [if_neg here, ← held, ← pending]
      split
      · simp only [lostSlotStream, SlotSet.has_without, SlotSet.has_only, apart, Bool.not_false, Bool.and_true, and_self]
      · exact ⟨rfl, rfl⟩

/-- Such an event with its reports. -/
theorem MapAgrees.takeSlot {ranged : Prop} {s : State} (h : MapAgrees ranged s) (awake : ¬ Resting s) (k : Slot) (e : Entry)
    (foreign : e.state.ownStream s.own = none) (reason : LossReason) :
    MapAgrees ranged (State.reportLoss (s.map[k].state.lossReport s.own k reason) (State.changeMap (fun m => m.set k e) s)) := by
  rw [reportLoss_eq (State.changeMap_streams (fun m => m.set k e) s)]
  refine (h.loseSlot awake k foreign).of_view ?_
  simp only [mapView, changeMap_eq]

theorem foreign_of_ne {own sender : Nat} (other : sender ≠ own) (n : StreamNo) (c : Nat) :
    (EntryState.held sender n c false).ownStream own = none ∧ (EntryState.pending sender n c false).ownStream own = none :=
  ⟨if_neg fun h => other h.1, if_neg fun h => other h.1⟩

/-- R29, R30: a slot frame of another station. -/
theorem learnFrame_mapAgrees {ranged : Prop} {s : State} (h : MapAgrees ranged s) (awake : ¬ Resting s) (k : Slot)
    (f : SlotFrame) (other : f.sender ≠ s.own) : MapAgrees ranged (State.learnFrame k f s) :=
  h.takeSlot awake k { s.map[k] with state := .held f.sender f.stream 0 false, heard := true }
    (foreign_of_ne other f.stream 0).1 _

/-- R39: an OBJECT of another station. -/
theorem hearObject_mapAgrees {ranged : Prop} {s : State} (h : MapAgrees ranged s) (awake : ¬ Resting s) (sender : Nat)
    (n : StreamNo) (k : Slot) (aux : Nat) (other : sender ≠ s.own) : MapAgrees ranged (State.hearObject sender n k aux s) := by
  refine h.takeSlot awake k { s.map[k] with state := objectedState sender n aux } ?_ _
  unfold objectedState
  split
  · exact (foreign_of_ne other n 0).1
  · exact (foreign_of_ne other n aux).2

/-! ### Claims and releases of other stations -/

/-- R37: another station's RELEASE takes no own slot. -/
theorem hearRelease_mapAgrees {ranged : Prop} {s : State} (h : MapAgrees ranged s) (awake : ¬ Resting s) (sender : Nat)
    (slots : SlotSet) (other : sender ≠ s.own) : MapAgrees ranged (State.hearRelease sender slots s) := by
  refine (h.changeEntries awake (s.map.release sender slots) fun k => ?_).of_view (mapView_changeMap s _)
  rw [release_get]
  split
  · next released =>
    have before := released.2
    cases state : s.map[k].state with
    | pending o m c d =>
      rw [state] at before
      have foreign : ¬ (o = s.own ∧ d = false) := fun mine => other ((Option.some.inj before).symm.trans mine.1)
      simp [EntryState.ownHeld, EntryState.ownPending, foreign]
    | held o m c d =>
      rw [state] at before
      have foreign : ¬ (o = s.own ∧ d = false) := fun mine => other ((Option.some.inj before).symm.trans mine.1)
      simp [EntryState.ownHeld, EntryState.ownPending, foreign]
    | free | quarantine c => exact ⟨rfl, rfl⟩
  · exact ⟨rfl, rfl⟩

/-- Records that go, or that name no stream, leave the agreement. -/
theorem MapAgrees.requeue {ranged : Prop} {s : State} (h : MapAgrees ranged s) (awake : ¬ Resting s) (q : List Record)
    (old : ∀ n set, Record.release n set ∈ q → Record.release n set ∈ s.ann.queue)
    (differ : (q.filterMap releaseStream).Nodup) (objects : (objectsOf s.ann.queue).Nodup → (objectsOf q).Nodup) :
    MapAgrees ranged (State.setQueue q s) := by
  obtain ⟨-, ⟨closed, claim, record, flight, -⟩, mirror, ranges⟩ := h
  refine ⟨fun rest => absurd rest awake, ⟨closed, claim, fun n set mem => record n set (old n set mem), flight, differ⟩, mirror,
    fun r => ?_⟩
  obtain ⟨reload, wanted, lists, total, attempts, backoff, claiming, stall, closing, unique⟩ := ranges r
  exact ⟨reload, wanted, lists, total, attempts, backoff, claiming, stall, closing, objects unique⟩

theorem objectsOf_objects (ks : List Slot) : objectsOf (ks.map Record.object) = ks := by
  induction ks with
  | nil => rfl
  | cons k ks ih => rw [List.map_cons]; exact congrArg (k :: ·) ih

theorem mem_objectsOf {q : List Record} {k : Slot} : k ∈ objectsOf q ↔ Record.object k ∈ q := by
  rw [objectsOf, List.mem_filterMap]
  constructor
  · rintro ⟨r, mem, is⟩
    cases r with
    | object j => cases is; exact mem
    | release n set => cases is
  · exact fun mem => ⟨_, mem, rfl⟩

theorem claimOnOwn_mapAgrees {ranged : Prop} {s : State} (h : MapAgrees ranged s) (awake : ¬ Resting s) (slots : SlotSet) :
    MapAgrees ranged (State.claimOnOwn slots s) := by
  rw [claimOnOwn_eq]
  refine h.requeue awake (queueAfterClaim s slots) (fun n set => ?_) ?_ fun objects => ?_
  · unfold queueAfterClaim
    split
    · rw [List.mem_append]
      rintro (kept | added)
      · exact (List.mem_filter.mp kept).1
      · obtain ⟨k, -, is⟩ := List.mem_map.mp added
        cases is
    · exact id
  · unfold queueAfterClaim
    split
    · have none : (addedRecords s slots).filterMap releaseStream = [] := by
        rw [List.filterMap_eq_nil_iff]
        intro r added
        obtain ⟨k, -, rfl⟩ := List.mem_map.mp added
        rfl
      rw [List.filterMap_append, none, List.append_nil]
      exact h.releases.records_differ.sublist (List.filter_sublist.filterMap _)
    · exact h.releases.records_differ
  · unfold queueAfterClaim
    split
    · rw [objectsOf, List.filterMap_append]
      show (objectsOf (keptRecords s) ++ objectsOf (addedRecords s slots)).Nodup
      rw [addedRecords, objectsOf_objects]
      refine List.Nodup.append (objects.sublist (List.filter_sublist.filterMap _)) ((List.nodup_finRange 32).filter _)
        fun k kept added => ?_
      have fresh := (List.mem_filter.mp added).2
      rw [Bool.and_eq_true, Bool.not_eq_true', ← Bool.not_eq_true, List.contains_iff_mem] at fresh
      exact fresh.2 (mem_objectsOf.mp kept)
    · exact objects

/-- R34, R35: another station's CLAIM. -/
theorem hearClaim_mapAgrees {ranged : Prop} {s : State} (h : MapAgrees ranged s) (awake : ¬ Resting s) (sender : Nat)
    (n : StreamNo) (slots : SlotSet) (other : sender ≠ s.own) : MapAgrees ranged (State.hearClaim sender n slots s) := by
  have reported := claimOnOwn_mapAgrees h awake slots
  have map : (State.claimOnOwn slots s).map = s.map := by rw [claimOnOwn_eq]
  have setup : (State.claimOnOwn slots s).setup = s.setup := by rw [claimOnOwn_eq]
  have station : (State.claimOnOwn slots s).station = s.station := by rw [claimOnOwn_eq]
  rw [State.hearClaim]
  generalize State.claimOnOwn slots s = u at *
  have own : u.own = s.own := by rw [State.own, setup]; rfl
  refine (reported.changeEntries (by rwa [Resting, station]) (u.map.claim sender n slots) fun k => ?_).of_view
    (mapView_changeMap u _)
  rw [claim_get, own]
  split
  · next taken =>
    have foreign : ¬ (sender = s.own ∧ false = false) := fun mine => other mine.1
    rw [taken.2]
    exact ⟨rfl, if_neg foreign⟩
  · exact ⟨rfl, rfl⟩

/-! ### Receptions -/

theorem receiveWhole_mapAgrees {ranged : Prop} {admits legal : Bool} {deliver : State → State}
    (delivers : ∀ u, MapAgrees ranged u → ¬ Resting u → MapAgrees ranged (deliver u)) (offset : Nat) {s : State}
    (h : MapAgrees ranged s) (line : LineAgrees s) : MapAgrees ranged (State.receiveWhole admits offset legal deliver s) := by
  unfold State.receiveWhole
  split
  · next hears =>
    have on : s.line.receiver = true := by
      simp only [Bool.and_eq_true] at hears; exact hears.1.1
    have lineNow : LineAgrees (State.atRun 0 s) := line
    have settled : MapAgrees ranged (State.settle (State.atRun 0 s)) := MapAgrees.settle (h.of_view rfl) lineNow
    have awake : ¬ Resting (State.settle (State.atRun 0 s)) := by
      rw [Resting, (settle_timer (State.atRun 0 s)).2]
      exact awake_of_receiver line on
    dsimp only
    split
    · exact settled
    · exact settled.of_view (mapView_rxError _)
    · split
      · exact delivers _ (settled.of_view rfl) awake
      · exact settled.of_view (mapView_rxError _)
  · exact h

theorem slotFrameReceived_mapAgrees {ranged : Prop} {s : State} (h : MapAgrees ranged s) (line : LineAgrees s) (offset : Nat)
    (f : SlotFrame) : MapAgrees ranged (State.slotFrameReceived offset f s) := by
  unfold State.slotFrameReceived
  split
  · refine (receiveWhole_mapAgrees (fun u hu awake => ?_) offset h line).of_view (mapView_changing _ _)
    unfold State.deliverFrame
    split
    · exact hu.clash
    · next other => exact (learnFrame_mapAgrees hu awake _ f other).of_view (mapView_tapTake _ f)
  · exact h

theorem announcementReceived_mapAgrees {ranged : Prop} {s : State} (h : MapAgrees ranged s) (line : LineAgrees s) (offset : Nat)
    (a : Announcement) {apply : State → State}
    (applies : ∀ u, MapAgrees ranged u → ¬ Resting u → a.sender ≠ u.own → MapAgrees ranged (apply u)) :
    MapAgrees ranged (State.announcementReceived offset a apply s) := by
  refine (receiveWhole_mapAgrees (fun u hu awake => ?_) offset h line).of_view (mapView_changing _ _)
  unfold State.deliverAnnouncement
  split
  · exact hu.clash
  · next other => exact applies u hu awake other

theorem receiveError_mapAgrees {ranged : Prop} {s : State} (h : MapAgrees ranged s) (heard : Stretch) :
    MapAgrees ranged (State.receiveError heard s) := by
  unfold State.receiveError
  split
  · exact h.of_view (by simp)
  · exact h

end Sys2Proof.Proofs
end

section
/-! SUPPORT. Map and streams agree after an own announcement. -/

namespace Sys2Proof.Proofs

open Sys2Proof Sys2Proof.Machine Sys2Proof.Safety

/-! ### RELEASE (R38, R60) -/

theorem release_own (m : SlotMap) (own : Nat) (set : SlotSet) (k : Slot) :
    (SlotSet.has set k = true → (m.release own set)[k].state.ownStream own = none) ∧
    (SlotSet.has set k = false → (m.release own set)[k] = m[k]) := by
  rw [release_get]
  refine ⟨fun named => ?_, fun other => if_neg fun h => Bool.false_ne_true (other.symm.trans h.1)⟩
  split
  · rfl
  · next foreign =>
    have apart : m[k].state.publisher.map Prod.fst ≠ some own := fun mine => foreign ⟨named, mine⟩
    cases state : m[k].state with
    | pending o n c d =>
      rw [state] at apart
      exact if_neg fun mine => apart (congrArg some mine.1)
    | held o n c d =>
      rw [state] at apart
      exact if_neg fun mine => apart (congrArg some mine.1)
    | free | quarantine c => rfl

/-- R60: the lists of a stream whose RELEASE has completed are empty. -/
theorem released_empty {st : Stream} {set : SlotSet} (covers : within st.slots set) :
    (st.released set).held = 0 ∧ (st.released set).pending = 0 := by
  have gone (k : Slot) (h : SlotSet.has st.slots k = true) : SlotSet.has set k = true := covers k h
  refine ⟨SlotSet.ext fun k => ?_, SlotSet.ext fun k => ?_⟩
  · rw [SlotSet.has_zero]
    show SlotSet.has (st.held &&& ~~~set) k = false
    rw [SlotSet.has_without]
    cases held : SlotSet.has st.held k with
    | false => rfl
    | true => rw [gone k (by rw [has_slots, held]; rfl)]; rfl
  · rw [SlotSet.has_zero]
    show SlotSet.has (st.pending &&& ~~~set) k = false
    rw [SlotSet.has_without]
    cases pending : SlotSet.has st.pending k with
    | false => rfl
    | true => rw [gone k (by rw [has_slots, pending, Bool.or_true])]; rfl

/-- R38, R60: an own RELEASE that has gone out. -/
theorem releaseApplied_mapAgrees {ranged : Prop} {s : State} (h : MapAgrees ranged s) (awake : ¬ Resting s) {a : Announcement}
    (offer : s.ann.offer = some a) (kind : a.kind = .release) :
    MapAgrees ranged (releaseApplied a.stream a.slots (State.setOffer none s)) := by
  obtain ⟨whole, -, -⟩ := releaseApplied_spec a.stream a.slots (State.setOffer none s)
  obtain ⟨-, covers, alone⟩ := h.releases.flight_covers a offer kind
  generalize releaseApplied a.stream a.slots (State.setOffer none s) = t at whole ⊢
  have setup : t.setup = s.setup := by rw [whole]; rfl
  have own : t.own = s.own := by rw [State.own, setup]; rfl
  have map : t.map = s.map.release s.own a.slots := by rw [whole]; rfl
  have none : t.ann.offer = Option.none := by rw [whole]; rfl
  have queue : t.ann.queue = s.ann.queue.filter fun r => (releaseOf r).map Prod.fst != some a.stream := by rw [whole]; rfl
  have station : t.station = s.station := by rw [whole]; rfl
  have streams (m : StreamNo) : t.streams[m] =
      if m = a.stream then s.streams[a.stream].released a.slots else s.streams[m] := by
    rw [whole]; exact vector_set_get s.streams a.stream m _
  obtain ⟨noHeld, noPending⟩ := released_empty covers
  have sublist : t.ann.queue.Sublist s.ann.queue := by rw [queue]; exact List.filter_sublist
  have mirror : ListsMirrorMap t := by
    intro m k
    obtain ⟨named, other⟩ := release_own s.map s.own a.slots k
    obtain ⟨held, pending⟩ := h.mirror m k
    rw [streams, map, own]
    cases set : SlotSet.has a.slots k with
    | true =>
      obtain ⟨goneHeld, gonePending⟩ := (own_none_iff _ _).mp (named set)
      rw [goneHeld, gonePending]
      split
      · rw [noHeld, noPending, SlotSet.has_zero]; exact ⟨rfl, rfl⟩
      · next apart =>
        have free : ¬ SlotSet.has s.streams[m].slots k = true := fun mine =>
          apart (alone k m set ((has_slots_mirror h.mirror m k).mp mine))
        rw [has_slots, Bool.not_eq_true, Bool.or_eq_false_iff] at free
        rw [free.1, free.2]; exact ⟨rfl, rfl⟩
    | false =>
      rw [other set]
      split
      · next here =>
        rw [here] at held pending
        have keeps (x : SlotSet) : SlotSet.has (x &&& ~~~a.slots) k = SlotSet.has x k := by
          rw [SlotSet.has_without, set, Bool.not_false, Bool.and_true]
        rw [here, ← held, ← pending]
        exact ⟨keeps _, keeps _⟩
      · exact ⟨held, pending⟩
  refine h.ground ⟨setup, none, mirror, fun m => ?_, fun m => ?_, fun m shut => ?_, fun m set mem => ?_,
    h.releases.records_differ.sublist (sublist.filterMap _), fun objects => objects.sublist (sublist.filterMap _)⟩
    (fun inRange => ?_) (by rwa [Resting, station])
  · rw [streams]
    split
    · next here =>
      intro k has
      rw [has_slots, noHeld, noPending, SlotSet.has_zero] at has
      cases has
    · exact within_refl _
  · rw [streams]
    split
    · next here => rw [here]; rfl
    · rfl
  · rw [streams] at shut ⊢
    split at shut
    · next here => rw [if_pos here]; exact .inr ⟨noHeld, noPending⟩
    · exact .inl shut
  · rw [queue, List.mem_filter] at mem
    have apart : m ≠ a.stream := fun here => by
      have other := mem.2
      rw [here] at other
      simp [releaseOf] at other
    rw [streams, if_neg apart]
    exact h.releases.record_covers m set mem.1
  · obtain ⟨⟨reload, fits⟩, -⟩ := (streamsInRange_iff s).mp inRange
    rw [CountsFit, setup]
    refine ⟨reload, fun m => ?_⟩
    rw [streams]
    split
    · exact (fits a.stream).emptied (state := .closed) nofun _ _ _ _
    · exact fits m

/-! ### OBJECT (R61) -/

/-- R57: an offer that has come to its end. -/
theorem MapAgrees.land {ranged : Prop} {s : State} (h : MapAgrees ranged s) (awake : ¬ Resting s) :
    MapAgrees ranged (State.setOffer none s) := by
  refine h.ground ⟨rfl, rfl, h.mirror, fun n => within_refl _, fun n => rfl, fun n shut => .inl shut,
    h.releases.record_covers, h.releases.records_differ, id⟩ (fun inRange => ?_) awake
  exact ((streamsInRange_iff s).mp inRange).1

theorem objectComplete_mapAgrees {ranged : Prop} {s : State} (h : MapAgrees ranged s) (awake : ¬ Resting s) (slots : SlotSet) :
    MapAgrees ranged (State.objectComplete slots s) := by
  refine h.requeue awake _ (fun n set mem => (List.mem_filter.mp mem).1) ?_ fun objects => ?_
  · exact h.releases.records_differ.sublist (List.filter_sublist.filterMap _)
  · exact objects.sublist (List.filter_sublist.filterMap _)

/-! ### CLAIM (R36, R59) -/

theorem claim_entry (m : SlotMap) (own : Nat) (n : StreamNo) (set : SlotSet) (k : Slot) :
    (SlotSet.has (m.claimable set) k = true →
      m[k].state = .free ∧ (m.claim own n set)[k].state = .pending own n 2 false) ∧
    (SlotSet.has (m.claimable set) k = false → (m.claim own n set)[k] = m[k]) := by
  rw [has_claimable, claim_get]
  refine ⟨fun taken => ?_, fun other => if_neg fun h => ?_⟩
  · rw [Bool.and_eq_true, beq_iff_eq] at taken
    exact ⟨taken.2, by rw [if_pos taken]⟩
  · rw [h.1, h.2] at other
    cases other

theorem join_releases (n : StreamNo) (made : SlotSet) (q : List Record) :
    (q.map (Record.join n made)).filterMap releaseStream = q.filterMap releaseStream := by
  rw [List.filterMap_map]
  refine List.filterMap_congr fun r _ => ?_
  cases r with
  | object k => rfl
  | release m set => simp only [Function.comp, Record.join]; split <;> rfl

theorem join_objects (n : StreamNo) (made : SlotSet) (q : List Record) :
    objectsOf (q.map (Record.join n made)) = objectsOf q := by
  unfold objectsOf
  rw [List.filterMap_map]
  refine List.filterMap_congr fun r _ => ?_
  cases r with
  | object k => rfl
  | release m set => by_cases here : m = n <;> simp only [Function.comp, Record.join, here, if_true, if_false]

theorem mem_join {n m : StreamNo} {made set : SlotSet} {q : List Record}
    (h : Record.release m set ∈ q.map (Record.join n made)) :
    ∃ before, Record.release m before ∈ q ∧ set = if m = n then before ||| made else before := by
  obtain ⟨r, mem, is⟩ := List.mem_map.mp h
  cases r with
  | object k => cases is
  | release j before =>
    simp only [Record.join] at is
    split at is
    · next here =>
      obtain ⟨rfl, rfl⟩ := Record.release.injEq .. ▸ is
      exact ⟨before, mem, by rw [if_pos here]⟩
    · next apart =>
      obtain ⟨rfl, rfl⟩ := Record.release.injEq .. ▸ is
      exact ⟨before, mem, by rw [if_neg apart]⟩

/-- R36, R59: an own CLAIM `a` has gone out; the FREE slots of its set are the stream's. -/
structure ClaimOut (a : Announcement) (s t : State) : Prop where
  setup   : t.setup = s.setup
  station : t.station = s.station
  map     : t.map = s.map.claim s.own a.stream a.slots
  offer   : t.ann.offer = none
  queue   : t.ann.queue = if s.streams[a.stream].state ≠ .releasing then s.ann.queue
    else s.ann.queue.map (Record.join a.stream (s.map.claimable a.slots))
  streams : ∀ m : StreamNo, t.streams[m] = if m = a.stream then
    s.streams[a.stream].claimed (s.map.claimable a.slots) s.setup.attemptReload else s.streams[m]

theorem claimComplete_out (a : Announcement) (s : State) :
    ClaimOut a s (State.claimComplete a.stream a.slots (State.setOffer none s)) := by
  obtain ⟨l, whole, -⟩ := claimComplete_spec a.stream a.slots (State.setOffer none s)
  generalize State.claimComplete a.stream a.slots (State.setOffer none s) = t at whole ⊢
  refine ⟨by rw [whole]; rfl, by rw [whole]; rfl, by rw [whole]; rfl, by rw [whole]; rfl, by rw [whole]; rfl, fun m => ?_⟩
  rw [whole]
  exact vector_set_get s.streams a.stream m _

section Out
variable {a : Announcement} {s t : State} (c : ClaimOut a s t)
include c

theorem ClaimOut.own : t.own = s.own := by rw [State.own, c.setup]; rfl

theorem ClaimOut.mirror (mirror : ListsMirrorMap s) : ListsMirrorMap t := by
  intro m k
  obtain ⟨held, pending⟩ := mirror m k
  obtain ⟨made, other⟩ := claim_entry s.map s.own a.stream a.slots k
  rw [c.streams, c.map, c.own]
  cases claims : SlotSet.has (s.map.claimable a.slots) k with
  | true =>
    obtain ⟨free, now⟩ := made claims
    rw [free] at held pending
    have mine : (EntryState.pending s.own a.stream 2 false).ownPending s.own = some a.stream := if_pos ⟨rfl, rfl⟩
    rw [now, mine]
    split
    · next here =>
      subst here
      rw [claimed_eq]
      refine ⟨held, ?_⟩
      show SlotSet.has (s.streams[a.stream].pending ||| _) k = _
      rw [SlotSet.has_or, claims, Bool.or_true]
      exact (beq_self_eq_true _).symm
    · next apart =>
      refine ⟨held, pending.trans ?_⟩
      exact (beq_eq_false_iff_ne.mpr fun same => apart (Option.some.inj same).symm).symm
  | false =>
    rw [other claims, ← held, ← pending]
    split
    · next here =>
      subst here
      rw [claimed_eq]
      refine ⟨rfl, ?_⟩
      show SlotSet.has (s.streams[a.stream].pending ||| _) k = _
      rw [SlotSet.has_or, claims, Bool.or_false]
    · exact ⟨rfl, rfl⟩

theorem ClaimOut.state (m : StreamNo) : (t.streams[m].state = .closed ↔ s.streams[m].state = .closed) ∧
    (t.streams[m].state = .releasing ↔ s.streams[m].state = .releasing) := by
  rw [c.streams]
  split
  · next here => rw [here, claimed_eq]; exact ⟨derived_closed_iff _ _ _, derived_releasing_iff _ _ _⟩
  · exact ⟨Iff.rfl, Iff.rfl⟩

theorem ClaimOut.slots (m : StreamNo) : t.streams[m].slots =
    if m = a.stream then s.streams[m].slots ||| s.map.claimable a.slots else s.streams[m].slots := by
  rw [c.streams]
  split
  · next here =>
    rw [here, claimed_eq]
    exact SlotSet.ext fun k => by simp only [Stream.slots, SlotSet.has_or, Bool.or_assoc]
  · rfl

/-- R36, R56: the slots that a CLAIM gains were spoken for while it was in flight. -/
theorem ClaimOut.spoken_le (mirror : ListsMirrorMap s) (offer : s.ann.offer = some a) (kind : a.kind = .claim) (m : StreamNo) :
    spoken t m ≤ spoken s m := by
  rw [spoken_eq mirror, spoken_eq (c.mirror mirror), c.slots, c.offer, offer]
  split
  · next here =>
    have few : SlotSet.card (s.map.claimable a.slots) ≤ SlotSet.card a.slots := card_le_of_within fun k has => by
      rw [has_claimable, Bool.and_eq_true] at has; exact has.1
    have sum := card_or_le s.streams[m].slots (s.map.claimable a.slots)
    simp only [offered, kind, here, true_and, if_true] at sum ⊢
    omega
  · simp only [offered]; omega

/-- R59: the slots join the RELEASE record of a RELEASING stream. -/
theorem ClaimOut.releases (releases : ReleasesCover s) (notClosed : s.streams[a.stream].state ≠ .closed) : ReleasesCover t := by
  refine ⟨fun m shut => ?_, fun b other => ?_, fun m set mem => ?_, fun b other => ?_, ?_⟩
  · have was := (c.state m).1.mp shut
    rw [c.streams, if_neg fun here : m = a.stream => notClosed (here ▸ was)]
    exact releases.closed_empty m was
  · rw [c.offer] at other; cases other
  · rw [(c.state m).2, c.slots]
    rw [c.queue] at mem
    split at mem
    · next stays =>
      obtain ⟨is, covers⟩ := releases.record_covers m set mem
      exact ⟨is, by rw [if_neg fun here : m = a.stream => stays (here ▸ is)]; exact covers⟩
    · obtain ⟨before, old, rfl⟩ := mem_join mem
      obtain ⟨is, covers⟩ := releases.record_covers m before old
      refine ⟨is, fun k has => ?_⟩
      split at has
      · next here =>
        rw [SlotSet.has_or, Bool.or_eq_true] at has
        rw [if_pos here, SlotSet.has_or, Bool.or_eq_true]
        exact has.imp_left (covers k)
      · next apart => rw [if_neg apart]; exact covers k has
  · rw [c.offer] at other; cases other
  · rw [c.queue]
    split
    · exact releases.records_differ
    · rw [join_releases]; exact releases.records_differ

theorem ClaimOut.fits (h : CountsFit s) (ready : s.streams[a.stream].backoff = 0) : CountsFit t := by
  obtain ⟨reload, fits⟩ := h
  refine ⟨c.setup ▸ reload, fun m => ?_⟩
  rw [c.setup, c.streams]
  split
  · obtain ⟨wanted, -, ⟨backoff, -⟩, -, closing⟩ := fits a.stream
    rw [claimed_eq]
    refine ⟨wanted, le_refl _, ⟨backoff, iff_of_false (by show s.setup.attemptReload ≠ 0; omega) (not_not_intro ready)⟩,
      Nat.zero_le _, closing.1, fun is => closing.2 ?_⟩
    exact (derived_releasing_iff _ _ _).mp is
  · exact fits m

end Out

/-- R36, R59: an own CLAIM that has gone out. -/
theorem claimComplete_mapAgrees {ranged : Prop} {s : State} (h : MapAgrees ranged s) (awake : ¬ Resting s) {a : Announcement}
    (offer : s.ann.offer = some a) (kind : a.kind = .claim) :
    MapAgrees ranged (State.claimComplete a.stream a.slots (State.setOffer none s)) := by
  have c := claimComplete_out a s
  generalize State.claimComplete a.stream a.slots (State.setOffer none s) = t at c
  refine ⟨fun rest => absurd (by rwa [Resting, c.station] at rest) awake,
    c.releases h.releases (h.releases.claim_open a offer kind), c.mirror h.mirror, fun r => ?_⟩
  obtain ⟨fits, ⟨lists, total, claims, objects⟩⟩ := (streamsInRange_iff s).mp (h.ranges r)
  have less := c.spoken_le h.mirror offer kind
  refine (streamsInRange_iff t).mpr ⟨c.fits fits (claims a offer kind),
    ⟨fun m => ?_, (sum_le_of_spoken_le less).trans total, fun b other => ?_, ?_⟩⟩
  · have wanted : t.streams[m].wanted = s.streams[m].wanted := by
      rw [c.streams]
      split
      · next here => rw [here, claimed_eq]
      · rfl
    rw [wanted]
    exact (less m).trans (lists m)
  · rw [c.offer] at other; cases other
  · rw [c.queue]
    split
    · exact objects
    · rw [join_objects]; exact objects

end Sys2Proof.Proofs
end

section
/-! SUPPORT. Map and streams agree after a window start, and after the own attempts. -/

namespace Sys2Proof.Proofs

open Sys2Proof Sys2Proof.Machine Sys2Proof.Safety

/-! ### The check of the records (R53, R54) -/

/-- What a list keeps of another, element by element. -/
theorem filterMap_sublist_of {α β : Type} {f g : α → Option β} (keeps : ∀ x, g x = none ∨ g x = f x) (l : List α) :
    (l.filterMap g).Sublist (l.filterMap f) := by
  induction l with
  | nil => exact List.Sublist.refl _
  | cons x l ih =>
    rcases keeps x with gone | same
    · rw [List.filterMap_cons_none gone]
      cases h : f x with
      | none => rw [List.filterMap_cons_none h]; exact ih
      | some y => rw [List.filterMap_cons_some h]; exact ih.cons y
    · cases h : f x with
      | none => rw [List.filterMap_cons_none h, List.filterMap_cons_none (same.trans h)]; exact ih
      | some y => rw [List.filterMap_cons_some h, List.filterMap_cons_some (same.trans h)]; exact ih.cons_cons y

/-- R50: a stream has one RELEASE record. -/
theorem release_unique {q : List Record} (differ : (q.filterMap releaseStream).Nodup) {n : StreamNo} {a b : SlotSet}
    (ha : Record.release n a ∈ q) (hb : Record.release n b ∈ q) : a = b := by
  induction q with
  | nil => cases ha
  | cons r q ih =>
    have later {c : SlotSet} (mem : Record.release n c ∈ q) : n ∈ q.filterMap releaseStream :=
      List.mem_filterMap.mpr ⟨_, mem, rfl⟩
    cases r with
    | object k =>
      rw [List.filterMap_cons_none rfl] at differ
      exact ih differ ((List.mem_cons.mp ha).resolve_left nofun) ((List.mem_cons.mp hb).resolve_left nofun)
    | release m c =>
      rw [List.filterMap_cons_some (f := releaseStream) (b := m) rfl, List.nodup_cons] at differ
      rcases List.mem_cons.mp ha with hereA | laterA <;> rcases List.mem_cons.mp hb with hereB | laterB
      · cases hereA; cases hereB; rfl
      · cases hereA; exact absurd (later laterB) differ.1
      · cases hereB; exact absurd (later laterA) differ.1
      · exact ih differ.2 laterA laterB

theorem has_trim (m : SlotMap) (own : Nat) (n : StreamNo) (set : SlotSet) (k : Slot) :
    SlotSet.has (m.trim own n set) k = true ↔ SlotSet.has set k = true ∧ m[k].state.ownStream own = some n := by
  rw [SlotMap.trim, SlotSet.has_ofPred, Bool.and_eq_true, beq_iff_eq]

/-- R54: what is left of the records. -/
def checkedQueue (s : State) : List Record :=
  s.ann.queue.filterMap (checkRecord (fun k => s.ownsSlot k) fun n set => s.map.trim s.own n set)

/-- R54: the record of stream n has nothing left. -/
def emptiedStream (s : State) (n : StreamNo) : Bool :=
  s.ann.queue.any (emptiedRecord (fun n set => s.map.trim s.own n set) n)

theorem emptiedStream_iff (s : State) (n : StreamNo) : emptiedStream s n = true ↔
    ∃ set, Record.release n set ∈ s.ann.queue ∧ s.map.trim s.own n set = 0 := by
  rw [emptiedStream, List.any_eq_true]
  constructor
  · rintro ⟨r, mem, empty⟩
    cases r with
    | object k => cases empty
    | release m set =>
      simp only [emptiedRecord, Bool.and_eq_true, beq_iff_eq] at empty
      obtain ⟨rfl, none⟩ := empty
      exact ⟨set, mem, none⟩
  · rintro ⟨set, mem, none⟩
    exact ⟨_, mem, by simp [emptiedRecord, none]⟩

theorem mem_checkedQueue {s : State} {n : StreamNo} {set : SlotSet} (mem : Record.release n set ∈ checkedQueue s) :
    ∃ before, Record.release n before ∈ s.ann.queue ∧ s.map.trim s.own n before ≠ 0 ∧ set = s.map.trim s.own n before := by
  obtain ⟨r, old, left⟩ := List.mem_filterMap.mp mem
  cases r with
  | object k =>
    simp only [checkRecord] at left
    split at left <;> cases left
  | release m before =>
    simp only [checkRecord] at left
    split at left
    · cases left
    · next some =>
      obtain ⟨rfl, rfl⟩ := Record.release.injEq .. ▸ Option.some.inj left
      exact ⟨before, old, some, rfl⟩

theorem checkRecords_eq (s : State) : s.checkRecords =
    State.updateStreams (fun n st => if emptiedStream s n then st.close else st) (State.setQueue (checkedQueue s) s) := rfl

/-- R54: the lists of a stream whose record has nothing left are empty. -/
theorem lists_empty_of_emptied {s : State} (releases : ReleasesCover s) (mirror : ListsMirrorMap s) {n : StreamNo}
    (emptied : emptiedStream s n = true) : s.streams[n].held = 0 ∧ s.streams[n].pending = 0 := by
  obtain ⟨set, mem, none⟩ := (emptiedStream_iff s n).mp emptied
  obtain ⟨-, covers⟩ := releases.record_covers n set mem
  refine lists_zero_of_within (b := Stream.reset 0) (fun k has => ?_) ⟨rfl, rfl⟩
  have left := (has_trim s.map s.own n set k).mpr ⟨covers k has, (has_slots_mirror mirror n k).mp has⟩
  rw [none, SlotSet.has_zero] at left
  cases left

/-- R53, R54: the check at a window start, with nothing in flight. -/
theorem checkRecords_mapAgrees {ranged : Prop} {s : State} (h : MapAgrees ranged s) (awake : ¬ Resting s)
    (silent : s.ann.offer = none) : MapAgrees ranged s.checkRecords := by
  rw [checkRecords_eq]
  generalize checks : State.updateStreams _ _ = t
  have streams (n : StreamNo) : t.streams[n] = if emptiedStream s n = true then s.streams[n].close else s.streams[n] := by
    rw [← checks, State.updateStreams_get]; rfl
  have held (n : StreamNo) : t.streams[n].held = s.streams[n].held ∧ t.streams[n].pending = s.streams[n].pending := by
    rw [streams]
    split
    · next emptied =>
      obtain ⟨noHeld, noPending⟩ := lists_empty_of_emptied h.releases h.mirror emptied
      exact ⟨noHeld.symm, noPending.symm⟩
    · exact ⟨rfl, rfl⟩
  have slots (n : StreamNo) : t.streams[n].slots = s.streams[n].slots := by
    rw [Stream.slots, (held n).1, (held n).2]; rfl
  have setup : t.setup = s.setup := by rw [← checks, State.updateStreams_setup]; rfl
  have map : t.map = s.map := by rw [← checks, State.updateStreams_map]; rfl
  have ann : t.ann = { s.ann with queue := checkedQueue s } := by rw [← checks, State.updateStreams_ann]; rfl
  have station : t.station = s.station := by rw [← checks, State.updateStreams_station]; rfl
  have own : t.own = s.own := by rw [State.own, setup]; rfl
  refine h.ground ⟨setup, by rw [ann]; exact silent, fun n k => ?_, fun n => ?_, fun n => ?_, fun n shut => ?_,
    fun n set mem => ?_, ?_, fun objects => ?_⟩ (fun inRange => ?_) (by rwa [Resting, station])
  · rw [(held n).1, (held n).2, map, own]; exact h.mirror n k
  · rw [slots]; exact within_refl _
  · rw [streams]; split <;> rfl
  · rw [streams] at shut
    split at shut
    · next emptied => rw [(held n).1, (held n).2]; exact .inr (lists_empty_of_emptied h.releases h.mirror emptied)
    · exact .inl shut
  · rw [ann] at mem
    obtain ⟨before, old, some, rfl⟩ := mem_checkedQueue mem
    obtain ⟨releasing, covers⟩ := h.releases.record_covers n before old
    have stays : ¬ emptiedStream s n = true := fun emptied => by
      obtain ⟨set, other, none⟩ := (emptiedStream_iff s n).mp emptied
      exact some (release_unique h.releases.records_differ old other ▸ none)
    rw [streams, if_neg stays]
    refine ⟨releasing, fun k has => (has_trim _ _ _ _ _).mpr ⟨covers k has, (has_slots_mirror h.mirror n k).mp has⟩⟩
  · rw [ann]
    show ((checkedQueue s).filterMap releaseStream).Nodup
    rw [checkedQueue, List.filterMap_filterMap]
    refine h.releases.records_differ.sublist (filterMap_sublist_of (fun r => ?_) _)
    cases r with
    | object k => simp only [checkRecord]; split <;> exact .inl rfl
    | release m set =>
      simp only [checkRecord]
      split
      · exact .inl rfl
      · exact .inr rfl
  · rw [ann]
    show (objectsOf (checkedQueue s)).Nodup
    unfold objectsOf at objects ⊢
    rw [checkedQueue, List.filterMap_filterMap]
    refine objects.sublist (filterMap_sublist_of (fun r => ?_) _)
    cases r with
    | object k =>
      simp only [checkRecord]
      split
      · exact .inr rfl
      · exact .inl rfl
    | release m set => simp only [checkRecord]; split <;> exact .inl rfl
  · obtain ⟨⟨reload, fits⟩, -⟩ := (streamsInRange_iff s).mp inRange
    rw [CountsFit, setup]
    refine ⟨reload, fun n => ?_⟩
    rw [streams]
    split
    · exact (fits n).emptied (state := .closed) nofun 0 0 _ _
    · exact fits n

/-! ### Offers (R52 to R57) -/

theorem sum_add_single (f : StreamNo → Nat) (n : StreamNo) (c : Nat) :
    ((List.finRange 8).map fun m => f m + if n = m then c else 0).sum = ((List.finRange 8).map f).sum + c := by
  simp only [← Fin.sum_univ_def, Finset.sum_add_distrib, Finset.sum_ite_eq, Finset.mem_univ, if_true]

/-- R57: an announcement is in flight that the agreement allows. -/
theorem MapAgrees.offers {ranged : Prop} {s : State} (h : MapAgrees ranged s) (awake : ¬ Resting s)
    (silent : s.ann.offer = none) (a : Announcement)
    (claim : a.kind = .claim → s.streams[a.stream].state ≠ .closed ∧ s.streams[a.stream].backoff = 0 ∧
      SlotSet.card a.slots ≤ s.streams[a.stream].wanted - spoken s a.stream ∧
      SlotSet.card a.slots ≤ 16 - ((List.finRange 8).map fun n => spoken s n).sum)
    (release : a.kind = .release → s.streams[a.stream].state = .releasing ∧ within s.streams[a.stream].slots a.slots ∧
      ∀ k : Slot, SlotSet.has a.slots k = true → s.map[k].state.ownStream s.own = some a.stream) :
    MapAgrees ranged (State.setOffer (some a) s) := by
  have mirror : ListsMirrorMap (State.setOffer (some a) s) := h.mirror
  have spoke (n : StreamNo) : spoken (State.setOffer (some a) s) n =
      spoken s n + if a.stream = n then (if a.kind = .claim then SlotSet.card a.slots else 0) else 0 := by
    rw [spoken_eq h.mirror, spoken_eq mirror, silent]
    show SlotSet.card s.streams[n].slots + offered (some a) n = SlotSet.card s.streams[n].slots + offered none n + _
    simp only [offered, Nat.add_zero]
    by_cases kind : a.kind = .claim <;> by_cases here : a.stream = n <;> simp [kind, here]
  refine ⟨fun rest => absurd rest awake, ⟨h.releases.closed_empty, fun b is kind => ?_, h.releases.record_covers,
    fun b is kind => ?_, h.releases.records_differ⟩, mirror, fun r => ?_⟩
  · cases is; exact (claim kind).1
  · cases is
    obtain ⟨releasing, covers, own⟩ := release kind
    refine ⟨releasing, covers, fun k m has owned => ?_⟩
    exact Option.some.inj (owned.symm.trans (own k has))
  · obtain ⟨fits, ⟨lists, total, -, objects⟩⟩ := (streamsInRange_iff s).mp (h.ranges r)
    refine (streamsInRange_iff _).mpr ⟨fits, ⟨fun n => ?_, ?_, fun b is kind => ?_, objects⟩⟩
    · rw [spoke]
      show _ ≤ s.streams[n].wanted
      have fit := lists n
      by_cases here : a.stream = n
      · by_cases kind : a.kind = .claim
        · obtain ⟨-, -, need, -⟩ := claim kind
          subst here
          rw [if_pos rfl, if_pos kind]
          omega
        · rw [if_pos here, if_neg kind]; exact fit
      · rw [if_neg here]; exact fit
    · simp only [spoke, sum_add_single]
      split
      · next kind =>
        obtain ⟨-, -, -, room⟩ := claim kind
        have before : ((List.finRange 8).map fun n => spoken s n).sum ≤ 16 := total
        exact (Nat.add_le_add_left room _).trans (Nat.add_sub_of_le before).le
      · exact total
    · cases is; exact (claim kind).2.1

end Sys2Proof.Proofs
end

section
/-! SUPPORT. Map and streams agree after a window start, and after the events of the own attempts. -/

namespace Sys2Proof.Proofs

open Sys2Proof Sys2Proof.Machine Sys2Proof.Safety

/-! ### Window starts (R52 to R57) -/

theorem mem_of_releaseSet {q : List Record} {n : StreamNo} {set : SlotSet}
    (found : q.findSome? Record.releaseSet = some (n, set)) : Record.release n set ∈ q := by
  obtain ⟨r, mem, is⟩ := List.exists_of_findSome?_eq_some found
  cases r with
  | object j => cases is
  | release m a => cases is; exact mem

/-- R55: with nothing in flight, what is spoken for is what the streams have. -/
theorem spoken_of_silent {s : State} (silent : s.ann.offer = none) (n : StreamNo) :
    spoken s n = SlotSet.card s.streams[n].held + SlotSet.card s.streams[n].pending := by
  rw [spoken, silent]; rfl

/-- R55, R56: the claim of an eligible stream fits its need and the limit. -/
theorem claimSet_fits {s : State} {n : StreamNo} (silent : s.ann.offer = none) :
    SlotSet.card (s.claimSet n) ≤ s.streams[n].wanted - spoken s n ∧
    SlotSet.card (s.claimSet n) ≤ 16 - ((List.finRange 8).map fun m => spoken s m).sum := by
  have total : ((List.finRange 8).map fun m => spoken s m).sum = s.ownTotal := by
    simp only [spoken_of_silent silent]; rfl
  have few : SlotSet.card (s.claimSet n) ≤ min s.streams[n].need (ownSlotLimit - s.ownTotal) :=
    (card_slotsOf_le _).trans (List.length_take_le _ _)
  rw [total, spoken_of_silent silent]
  exact ⟨few.trans (Nat.min_le_left _ _), few.trans (Nat.min_le_right _ _)⟩

/-- R57: an announcement that the agreement allows is handed over. -/
theorem MapAgrees.offersIn {ranged : Prop} {s : State} {a : Announcement} (h : MapAgrees ranged (State.setOffer (some a) s))
    (w : WindowNo) : MapAgrees ranged (State.offerIn w a s) := h.of_view (mapView_handOver _ _)

theorem offerClaim_mapAgrees {ranged : Prop} {s : State} (h : MapAgrees ranged s) (silent : s.ann.offer = none)
    (w : WindowNo) : MapAgrees ranged (State.offerClaim w s) := by
  unfold State.offerClaim
  split
  · next active =>
    split
    · next n found =>
      have eligible := List.find?_some found
      simp only [State.eligible, Bool.and_eq_true, Bool.or_eq_true, beq_iff_eq] at eligible
      obtain ⟨⟨⟨⟨state, ready⟩, -⟩, -⟩, -⟩ := eligible
      obtain ⟨need, room⟩ := claimSet_fits (n := n) silent
      generalize s.claimSet n = set at need room ⊢
      refine MapAgrees.offersIn (h.offers (by simp [Resting, active]) silent
        { kind := .claim, sender := s.own, stream := n, slots := set, aux := 0 } (fun _ => ⟨?_, ready, need, room⟩)
        fun other => nomatch other) w
      rcases state with is | is <;> rw [is] <;> nofun
    · exact h
  · exact h

theorem objectFor_kind (own : Nat) (k : Slot) (e : EntryState) : (objectFor own k e).kind = .object := by
  cases e <;> rfl

theorem offerFirst_mapAgrees {ranged : Prop} {s : State} (h : MapAgrees ranged s) (awake : ¬ Resting s)
    (silent : s.ann.offer = none) (trimmed : ∀ n set, Record.release n set ∈ s.ann.queue →
      ∀ k : Slot, SlotSet.has set k = true → s.map[k].state.ownStream s.own = some n) (w : WindowNo) :
    MapAgrees ranged (State.offerFirst w s) := by
  unfold State.offerFirst
  split
  · next k found =>
    have kind := objectFor_kind s.own k s.map[k].state
    generalize objectFor s.own k s.map[k].state = a at kind
    refine MapAgrees.offersIn (h.offers awake silent a (fun other => ?_) fun other => ?_) w
    · rw [kind] at other; cases other
    · rw [kind] at other; cases other
  · split
    · next n set found =>
      have mem := mem_of_releaseSet found
      obtain ⟨releasing, covers⟩ := h.releases.record_covers n set mem
      have own := trimmed n set mem
      exact MapAgrees.offersIn (h.offers awake silent
        { kind := .release, sender := s.own, stream := n, slots := set, aux := 0 } (fun other => nomatch other)
        fun _ => ⟨releasing, covers, own⟩) w
    · refine offerClaim_mapAgrees h.leaveIfDone ?_ w
      unfold State.leaveIfDone
      split
      · exact congrArg AttemptView.offer (show attemptView s.leaveEnds = offlineView from attemptView_enterOffline _)
      · exact silent

/-- R54: what is left of a RELEASE record at the check is own. -/
theorem checkRecords_trimmed (s : State) (n : StreamNo) (set : SlotSet) (mem : Record.release n set ∈ s.checkRecords.ann.queue)
    (k : Slot) (has : SlotSet.has set k = true) :
    s.checkRecords.map[k].state.ownStream s.checkRecords.own = some n := by
  rw [checkRecords_eq] at mem ⊢
  rw [State.updateStreams_ann] at mem
  rw [State.own, State.updateStreams_setup, State.updateStreams_map]
  obtain ⟨before, -, -, rfl⟩ := mem_checkedQueue mem
  exact ((has_trim _ _ _ _ _).mp has).2

theorem windowStart_mapAgrees {ranged : Prop} {s : State} (h : MapAgrees ranged s) (line : LineAgrees s) (w : WindowNo)
    (rx : Option Stretch) : MapAgrees ranged (State.windowStart w rx s) := by
  unfold State.windowStart
  split
  · next reported =>
    have begun : MapAgrees ranged (State.clearLostNote (State.startSegment (.window w) (windowStartAt w) rx s)) :=
      (startSegment_mapAgrees h line (.window w) (windowStartAt w) rx).of_view (mapView_clearLostNote _)
    have lineBegun : LineAgrees (State.clearLostNote (State.startSegment (.window w) (windowStartAt w) rx s)) :=
      (startSegment_agrees line (.window w) rx reported).1.of_view (by simp)
    refine MapAgrees.of_view ?_ (mapView_changing _ _)
    generalize State.clearLostNote (State.startSegment (.window w) (windowStartAt w) rx s) = u at begun lineBegun
    unfold State.offer
    split
    · next free =>
      obtain ⟨drives, idle⟩ : u.mayDrive = true ∧ u.line.transmit = .idle := by simpa using free
      obtain ⟨silent, -⟩ := nothing_flies_of_idle lineBegun idle
      have view := attemptView_checkRecords u
      have checked := checkRecords_mapAgrees begun (awake_of_drives drives) silent
      refine offerFirst_mapAgrees checked (awake_of_drives ?_) ?_ (checkRecords_trimmed u) w
      · exact (congrArg AttemptView.drives view).trans drives
      · exact (congrArg AttemptView.offer view).trans silent
    · exact begun
  · exact h

/-! ### Attempts -/

theorem lineHeld_mapView (s : State) : mapView s.lineHeld = mapView s := by
  unfold State.lineHeld; split <;> rfl

theorem attemptStart_mapView (run : Nat) (rx : Option Stretch) (s : State) :
    mapView (State.attemptStart run rx s) = mapView s := by
  unfold State.attemptStart
  split
  · split <;> simp
  · rfl

theorem arbitrationMismatch_mapView (bit : Nat) (s : State) : mapView (State.arbitrationMismatch bit s) = mapView s := by
  unfold State.arbitrationMismatch
  split
  · split <;> rfl
  · rfl

theorem breakComplete_mapView (s : State) : mapView s.breakComplete = mapView s := by
  unfold State.breakComplete; split <;> rfl

theorem transmitFault_mapAgrees {ranged : Prop} {s : State} (h : MapAgrees ranged s) (line : LineAgrees s) (bit : Nat) :
    MapAgrees ranged (State.transmitFault bit s) := by
  have run : MapAgrees ranged (State.atRun 0 s) := h.of_view (mapView_atRun s 0)
  have lineRun : LineAgrees (State.atRun 0 s) := line.of_view (attemptView_atRun s 0)
  unfold State.transmitFault
  split
  · next a driving =>
    split
    · have current : currentAttempt (State.atRun 0 s).line.transmit = some a := by
        show currentAttempt s.line.transmit = _
        rw [driving]; rfl
      refine MapAgrees.of_view (run.attemptEnds lineRun current (attemptFault_ends a _)) ?_
      simp only [State.dominantFault]
      split_ifs <;> simp
    · exact h
  · exact run.settle lineRun
  · exact h

/-- R59 to R61: an own announcement that has gone out. -/
theorem announcementComplete_mapAgrees {ranged : Prop} {s : State} (h : MapAgrees ranged s) (awake : ¬ Resting s)
    {a : Announcement} (offer : s.ann.offer = some a) : MapAgrees ranged (State.announcementComplete a s) := by
  simp only [State.announcementComplete]
  split
  · next kind => exact claimComplete_mapAgrees h awake offer kind
  · next kind =>
    rw [releaseComplete_eq]
    exact (releaseApplied_mapAgrees h awake offer kind).leaveIfDone
  · exact objectComplete_mapAgrees (h.land awake) awake _

theorem attemptComplete_mapAgrees {ranged : Prop} {s : State} (h : MapAgrees ranged s) (line : LineAgrees s) :
    MapAgrees ranged s.attemptComplete := by
  have awake {a : Attempt} (driving : s.line.transmit = .driving a) : ¬ Resting s :=
    awake_of_drives (line.driving_allowed (show s.line.transmit ≠ .idle by rw [driving]; nofun))
  have ended : MapAgrees ranged (State.endFrame s.endAttempt) := h.of_view rfl
  unfold State.attemptComplete
  split
  · exact h.of_view (by simp)
  · next k f driving => exact frameComplete_mapAgrees ended (awake driving) k f
  · next w a driving =>
    obtain ⟨offer, -⟩ := flies_of_current line (a := .announcement w a) (by rw [driving]; rfl)
    exact (announcementComplete_mapAgrees ended (awake driving) offer).of_view (mapView_changing _ _)
  · exact h

end Sys2Proof.Proofs
end

section
/-! SUPPORT. Map and streams agree after streams are closed by CLOSE_STREAM or STOP. -/

namespace Sys2Proof.Proofs

open Sys2Proof Sys2Proof.Machine Sys2Proof.Safety

/-! ### Streams that close (R68, R80) -/

/-- R80: a stream that is closed, where `claims` says whether a claim of it is in flight. -/
def closedStream (claims : Bool) (st : Stream) : Stream :=
  if st.slots != 0 || claims then { st with state := .releasing, closeCount := 0 } else { st with state := .closed }

theorem closedStream_lists (claims : Bool) (st : Stream) :
    (closedStream claims st).held = st.held ∧ (closedStream claims st).pending = st.pending ∧
    (closedStream claims st).slots = st.slots ∧ (closedStream claims st).wanted = st.wanted ∧
    (closedStream claims st).backoff = st.backoff := by
  unfold closedStream; split <;> exact ⟨rfl, rfl, rfl, rfl, rfl⟩

theorem state_listsOf (st : Stream) : (listsOf st).state = st.state := rfl

/-- R80: it is CLOSED at once where it has no slot and no claim in flight, and RELEASING otherwise. -/
theorem closedStream_state (claims : Bool) (st : Stream) :
    ((closedStream claims st).state = .closed ∧ st.slots = 0 ∧ claims = false) ∨
    ((closedStream claims st).state = .releasing ∧ (st.slots ≠ 0 ∨ claims = true)) := by
  unfold closedStream
  split
  · next some => exact .inr ⟨rfl, by simpa using some⟩
  · next none =>
    simp only [Bool.or_eq_true, bne_iff_ne, not_or, not_not, Bool.not_eq_true] at none
    exact .inl ⟨rfl, none⟩

theorem closedStream_fits {reload : Nat} {st : Stream} (h : StreamFits reload st) (claims : Bool) :
    StreamFits reload (closedStream claims st) := by
  obtain ⟨wanted, attempts, backoff, stall, closing⟩ := h
  unfold closedStream
  split
  · exact ⟨wanted, attempts, backoff, stall, Nat.zero_le _, fun _ => Nat.zero_lt_succ _⟩
  · exact ⟨wanted, attempts, backoff, stall, closing.1, nofun⟩

theorem closedStream_twice (claims : Bool) (st : Stream) :
    closedStream claims (closedStream claims st) = closedStream claims st := by
  have slots := (closedStream_lists claims st).2.2.1
  rw [closedStream, slots]
  unfold closedStream
  split <;> rfl

theorem listsOf_closedStream (claims : Bool) (st : Stream) :
    listsOf (closedStream claims st) = closedStream claims (listsOf st) := by
  simp only [closedStream, apply_ite listsOf]; rfl

/-- The view with other lists. -/
def MapView.withLists (v : MapView) (lists : StreamNo → Stream) : MapView := { v with lists := lists }

theorem mapView_modifyStream_lists (n : StreamNo) (f : Stream → Stream) (s : State) :
    mapView (State.modifyStream n f s) =
      (mapView s).withLists fun m => if m = n then listsOf (f s.streams[m]) else listsOf s.streams[m] := by
  have lists (m : StreamNo) : listsOf (State.modifyStream n f s).streams[m] =
      if m = n then listsOf (f s.streams[m]) else listsOf s.streams[m] := by
    rw [State.modifyStream, vector_set_get]
    split
    · next here => rw [here]
    · rfl
  simp only [mapView, lists]; rfl

/-- What the agreement is about in a stream, where the streams that satisfy a condition are closed. -/
def closedLists (p : StreamNo → Prop) [DecidablePred p] (s : State) (n : StreamNo) : Stream :=
  if p n then listsOf (closedStream (s.claimInFlight n) s.streams[n]) else listsOf s.streams[n]

/-- R80: the lists of one stream that is closed. -/
theorem mapView_beginClose (n : StreamNo) (s : State) :
    mapView (State.beginClose n s) = (mapView s).withLists (closedLists (· = n) s) := by
  have flushed := mapView_flush s n
  have closes : State.beginClose n s = State.modifyStream n (fun st =>
      if s.streams[n].slots != 0 || s.claimInFlight n then { st with state := .releasing, closeCount := 0 }
      else { st with state := .closed }) (State.flush n s) := by
    simp only [State.beginClose, State.flush]; split <;> rfl
  rw [closes, mapView_modifyStream_lists, flushed]
  refine congrArg (MapView.withLists _) (funext fun m => ?_)
  have lists := lists_of_mapView flushed m
  rw [closedLists]
  by_cases here : m = n
  · subst here
    rw [if_pos rfl, if_pos rfl, listsOf_closedStream, ← lists, ← listsOf_closedStream, closedStream]
    have slots : (State.flush m s).streams[m].slots = s.streams[m].slots := by
      rw [Stream.slots, stream_of_mapView flushed m]; rfl
    rw [slots]
  · rw [if_neg here, if_neg here, lists]

/-- R157: the lists of the streams that are closed. -/
theorem mapView_closeStreams (ns : List StreamNo) (s : State) :
    mapView (State.closeStreams ns s) = (mapView s).withLists (closedLists (· ∈ ns) s) := by
  induction ns generalizing s with
  | nil => exact congrArg (MapView.withLists (mapView s)) (funext fun m => (if_neg List.not_mem_nil).symm)
  | cons n ns ih =>
    have first := mapView_beginClose n s
    have claims (m : StreamNo) : (State.beginClose n s).claimInFlight m = s.claimInFlight m := by
      have ann : (State.beginClose n s).ann = s.ann := congrArg MapView.ann first
      rw [State.claimInFlight, ann]; rfl
    have lists (m : StreamNo) : listsOf (State.beginClose n s).streams[m] = closedLists (· = n) s m :=
      congrFun (congrArg MapView.lists first) m
    refine (ih _).trans ?_
    rw [first]
    show (mapView s).withLists _ = (mapView s).withLists _
    refine congrArg (MapView.withLists _) (funext fun m => ?_)
    rw [closedLists, claims, listsOf_closedStream, lists, closedLists, closedLists]
    by_cases here : m = n
    · subst here
      simp only [if_pos, List.mem_cons_self, listsOf_closedStream, closedStream_twice, ite_self]
    · simp only [List.mem_cons, here, false_or, if_false, listsOf_closedStream]

/-- R68: streams are closed, and the RELEASE records of those that become RELEASING are appended. -/
structure Closes (p : StreamNo → Prop) [DecidablePred p] (rs : List Record) (s t : State) : Prop where
  opens : ∀ n, p n → s.streams[n].isOpen = true
  setup : t.setup = s.setup
  map   : t.map = s.map
  ann   : t.ann = { s.ann with queue := s.ann.queue ++ rs }
  rests : Resting t → Resting s
  lists : ∀ n : StreamNo, listsOf t.streams[n] = closedLists p s n
  made  : ∀ r ∈ rs, ∃ n, p n ∧ t.streams[n].state = .releasing ∧ r = .release n t.streams[n].slots
  apart : (rs.filterMap releaseStream).Nodup

section Closed
variable {p : StreamNo → Prop} [DecidablePred p] {rs : List Record} {s t : State} (c : Closes p rs s t)
include c

theorem Closes.own : t.own = s.own := by rw [State.own, c.setup]; rfl

theorem Closes.fields (n : StreamNo) : t.streams[n].held = s.streams[n].held ∧ t.streams[n].pending = s.streams[n].pending ∧
    t.streams[n].wanted = s.streams[n].wanted ∧ t.streams[n].backoff = s.streams[n].backoff := by
  obtain ⟨held, pending, -, wanted, backoff⟩ := closedStream_lists (s.claimInFlight n) s.streams[n]
  have same := c.lists n
  rw [closedLists] at same
  have each {α : Type} (field : Stream → α) (blind : ∀ st, field (listsOf st) = field st)
      (kept : field (closedStream (s.claimInFlight n) s.streams[n]) = field s.streams[n]) :
      field t.streams[n] = field s.streams[n] := by
    rw [← blind t.streams[n], same]
    split
    · rw [blind, kept]
    · rw [blind]
  exact ⟨each Stream.held (fun _ => rfl) held, each Stream.pending (fun _ => rfl) pending,
    each Stream.wanted (fun _ => rfl) wanted, each Stream.backoff (fun _ => rfl) backoff⟩

theorem Closes.slots (n : StreamNo) : t.streams[n].slots = s.streams[n].slots := by
  rw [Stream.slots, (c.fields n).1, (c.fields n).2.1]; rfl

theorem Closes.state_of_not {n : StreamNo} (other : ¬ p n) : t.streams[n].state = s.streams[n].state := by
  have same := c.lists n
  rw [closedLists] at same
  rw [if_neg other] at same
  rw [← state_listsOf, same]; rfl

theorem Closes.state_of {n : StreamNo} (here : p n) :
    (t.streams[n].state = .closed ∧ s.streams[n].slots = 0 ∧ s.claimInFlight n = false) ∨
    (t.streams[n].state = .releasing ∧ (s.streams[n].slots ≠ 0 ∨ s.claimInFlight n = true)) := by
  have same := c.lists n
  rw [closedLists] at same
  rw [if_pos here] at same
  have state : t.streams[n].state = (closedStream (s.claimInFlight n) s.streams[n]).state := by
    rw [← state_listsOf, same]; rfl
  rw [state]
  exact closedStream_state _ _

/-- R80: a stream that is RELEASING already is not closed again. -/
theorem Closes.not_again {n : StreamNo} (is : s.streams[n].state = .releasing) : ¬ p n := fun here => by
  have isOpen := c.opens n here
  rw [Stream.isOpen, is] at isOpen
  exact absurd isOpen (by decide)

theorem Closes.releasing {n : StreamNo} (is : s.streams[n].state = .releasing) : t.streams[n].state = .releasing :=
  (c.state_of_not (c.not_again is)).trans is

theorem Closes.record {n : StreamNo} {set : SlotSet} (mem : Record.release n set ∈ rs) :
    p n ∧ t.streams[n].state = .releasing ∧ set = t.streams[n].slots := by
  obtain ⟨m, here, is, made⟩ := c.made _ mem
  obtain ⟨rfl, rfl⟩ := Record.release.injEq .. ▸ made
  exact ⟨here, is, rfl⟩

theorem Closes.mirror (mirror : ListsMirrorMap s) : ListsMirrorMap t := fun n k => by
  rw [(c.fields n).1, (c.fields n).2.1, c.map, c.own]; exact mirror n k

/-- With no slot and no claim of any stream, every stream is CLOSED at once. -/
theorem Closes.no_records (empty : ∀ n : StreamNo, s.streams[n].held = 0 ∧ s.streams[n].pending = 0)
    (reset : s.ann = .reset) : rs = [] := by
  refine List.eq_nil_iff_forall_not_mem.mpr fun r mem => ?_
  obtain ⟨n, here, is, -⟩ := c.made r mem
  rcases c.state_of here with ⟨shut, -⟩ | ⟨-, slot | claims⟩
  · rw [is] at shut; cases shut
  · exact slot (by rw [Stream.slots, (empty n).1, (empty n).2]; rfl)
  · rw [State.claimInFlight, reset] at claims; cases claims

theorem Closes.no_objects : objectsOf rs = [] := by
  rw [objectsOf, List.filterMap_eq_nil_iff]
  intro r mem
  obtain ⟨n, -, -, rfl⟩ := c.made r mem
  rfl

/-- R50: the new records are of other streams than the old ones. -/
theorem Closes.records_differ (releases : ReleasesCover s) : (t.ann.queue.filterMap releaseStream).Nodup := by
  rw [c.ann, List.filterMap_append, List.nodup_append]
  refine ⟨releases.records_differ, c.apart, fun n old m new same => ?_⟩
  subst same
  obtain ⟨a, oldMem, oldIs⟩ := List.mem_filterMap.mp old
  obtain ⟨b, newMem, newIs⟩ := List.mem_filterMap.mp new
  cases a with
  | object k => cases oldIs
  | release i x =>
    cases b with
    | object k => cases newIs
    | release j y =>
      cases oldIs
      cases newIs
      exact c.not_again (releases.record_covers _ x oldMem).1 (c.record newMem).1

/-- R50, R68: the records of the streams that close cover them. -/
theorem Closes.releases (releases : ReleasesCover s) : ReleasesCover t := by
  have offer : t.ann.offer = s.ann.offer := by rw [c.ann]
  refine ⟨fun n shut => ?_, fun a is kind => ?_, fun n set mem => ?_, fun a is kind => ?_, c.records_differ releases⟩
  · rw [(c.fields n).1, (c.fields n).2.1]
    by_cases here : p n
    · rcases c.state_of here with ⟨-, none, -⟩ | ⟨is, -⟩
      · exact lists_zero_of_within (b := Stream.reset 0) (fun k has => by rw [none, SlotSet.has_zero] at has; cases has) ⟨rfl, rfl⟩
      · rw [is] at shut; cases shut
    · exact releases.closed_empty n (c.state_of_not here ▸ shut)
  · rw [offer] at is
    by_cases here : p a.stream
    · rcases c.state_of here with ⟨-, -, none⟩ | ⟨now, -⟩
      · simp [State.claimInFlight, is, kind] at none
      · rw [now]; nofun
    · rw [c.state_of_not here]; exact releases.claim_open a is kind
  · rw [c.ann, List.mem_append] at mem
    rcases mem with old | new
    · obtain ⟨is, covers⟩ := releases.record_covers n set old
      rw [c.slots]
      exact ⟨c.releasing is, covers⟩
    · obtain ⟨-, is, rfl⟩ := c.record new
      exact ⟨is, within_refl _⟩
  · rw [offer] at is
    obtain ⟨releasing, covers, alone⟩ := releases.flight_covers a is kind
    rw [c.slots, c.map, c.own]
    exact ⟨c.releasing releasing, covers, alone⟩

theorem Closes.inRange (mirror : ListsMirrorMap s) (ranges : StreamsInRange s) : StreamsInRange t := by
  have offer : t.ann.offer = s.ann.offer := by rw [c.ann]
  have spoke (n : StreamNo) : spoken t n = spoken s n := by
    rw [spoken_eq mirror, spoken_eq (c.mirror mirror), c.slots, offer]
  obtain ⟨⟨reload, fits⟩, ⟨lists, total, claims, objects⟩⟩ := (streamsInRange_iff s).mp ranges
  refine (streamsInRange_iff t).mpr
    ⟨⟨c.setup ▸ reload, fun n => ?_⟩, ⟨fun n => ?_, ?_, fun a is kind => ?_, ?_⟩⟩
  · rw [c.setup]
    have same := c.lists n
    rw [closedLists] at same
    split at same
    · exact (closedStream_fits (fits n) _).of_lists same
    · exact (fits n).of_lists same
  · rw [spoke, (c.fields n).2.2.1]; exact lists n
  · simp only [spoke]; exact total
  · rw [(c.fields a.stream).2.2.2]; exact claims a (offer ▸ is) kind
  · rw [c.ann, objectsOf, List.filterMap_append]
    show (objectsOf s.ann.queue ++ objectsOf rs).Nodup
    rw [c.no_objects, List.append_nil]; exact objects

theorem MapAgrees.close {ranged : Prop} (h : MapAgrees ranged s) : MapAgrees ranged t := by
  refine ⟨fun rest => ?_, c.releases h.releases, c.mirror h.mirror, fun r => c.inRange h.mirror (h.ranges r)⟩
  obtain ⟨clear, empty, reset⟩ := h.rests (c.rests rest)
  rw [c.map, c.ann, c.no_records empty reset, List.append_nil]
  exact ⟨clear, fun n => by rw [(c.fields n).1, (c.fields n).2.1]; exact empty n, reset⟩

end Closed

end Sys2Proof.Proofs
end

section
/-! SUPPORT. Map and streams, and the attempts, agree after every request and every event of the pins. -/

namespace Sys2Proof.Proofs

open Sys2Proof Sys2Proof.Machine Sys2Proof.Safety

/-! ### Both agreements -/

/-- The attempts agree, and so do map and streams. -/
structure Agrees (ranged : Prop) (s : State) : Prop where
  line : LineAgrees s
  map  : MapAgrees ranged s

/-- What both agreements are about is the same. -/
structure SameViews (s t : State) : Prop where
  line : attemptView t = attemptView s
  map  : mapView t = mapView s

theorem SameViews.refl (s : State) : SameViews s s := ⟨rfl, rfl⟩

theorem Agrees.of_views {ranged : Prop} {s t : State} (h : Agrees ranged s) (same : SameViews s t) : Agrees ranged t :=
  ⟨h.line.of_view same.line, h.map.of_view same.map⟩

theorem Agrees.changing {ranged : Prop} {s : State} {f : State → State} (h : Agrees ranged (f s)) :
    Agrees ranged (State.changing f s) := h.of_views ⟨rfl, rfl⟩

theorem sameViews_modifyStream (s : State) (n : StreamNo) {f : Stream → Stream} (lists : ∀ st, listsOf (f st) = listsOf st)
    (flying : ∀ st, (f st).inFlight.isSome = st.inFlight.isSome) : SameViews s (State.modifyStream n f s) :=
  ⟨attemptView_modifyStream s n flying, mapView_modifyStream s n lists⟩

/-! ### Requests to station control -/

theorem Agrees.enterOffline {ranged : Prop} {s : State} (h : Agrees ranged s) : Agrees ranged s.enterOffline := by
  refine ⟨?_, enterOffline_mapAgrees h.map.countsFit⟩
  rw [LineAgrees, attemptView_enterOffline]
  exact offlineView_agrees

/-- R146: SETUP in OFFLINE. -/
theorem takeSetup_agrees {ranged : Prop} (args : List Byte) {s : State} (h : Agrees ranged s) :
    Agrees ranged (takeSetup args s).after := by
  unfold takeSetup
  split
  · exact h
  · next record found =>
    split
    · exact h
    · next offline =>
      obtain ⟨⟨-, -, reload, -⟩, -⟩ := setupArgs_inRange found
      obtain ⟨clear, empty, ann⟩ := h.map.rests (.inr (not_not.mp offline))
      generalize reloads : State.updateStreams (fun _ st => st.reload record.attemptReload) { s with setup := record } = t
      have streams (n : StreamNo) : t.streams[n] = s.streams[n].reload record.attemptReload := by
        rw [← reloads, State.updateStreams_get]
      have map : t.map = s.map := by rw [← reloads, State.updateStreams_map]
      have setup : t.setup = record := by rw [← reloads, State.updateStreams_setup]
      have view : attemptView t = attemptView s := by
        rw [← reloads]
        exact attemptView_updateStreams { s with setup := record } fun _ _ => rfl
      show Agrees ranged t
      refine ⟨h.line.of_view view, .of_empty (fun n => ?_) ?_ (fun k => ?_) (fun _ => map ▸ clear) fun r => ?_⟩
      · rw [streams]; exact empty n
      · rw [← reloads, State.updateStreams_ann]; exact ann
      · rw [map, clear k]; rfl
      · rw [CountsFit, setup]
        refine ⟨reload, fun n => ?_⟩
        obtain ⟨wanted, -, -, stall, closing⟩ := (h.map.countsFit r).2 n
        rw [streams]
        exact ⟨wanted, le_refl _, ⟨Nat.zero_le _, iff_of_false (by show record.attemptReload ≠ 0; omega) (not_not_intro rfl)⟩,
          stall, closing⟩

/-- R150: START. -/
theorem takeStart_agrees {ranged : Prop} (args : List Byte) {s : State} (h : Agrees ranged s) :
    Agrees ranged (takeStart args s).after := by
  unfold takeStart
  split
  · exact h
  · next offline =>
    split
    · exact h
    · have asleep : (attemptView s).drives = false := by
        show (s.station.state == .active || s.station.state == .leaving) = false
        rw [not_not.mp offline]; rfl
      obtain ⟨idle, -⟩ := h.line.idle_of_still asleep
      obtain ⟨drives, owed, txd, alone, closed, flight, offer, rests⟩ := h.line
      refine ⟨⟨fun busy => absurd idle busy, nofun, txd, nofun, nofun, flight, offer, fun rest => ?_⟩, ?_⟩
      · rcases rest with h | h <;> cases h
      · refine h.map.changeState rfl ?_
        simp [Resting, taken, State.beginListening]

/-! ### Streams that close -/

theorem placeByRank_perm (rank : StreamNo → Nat) (n : StreamNo) (ns : List StreamNo) :
    (placeByRank rank n ns).Perm (n :: ns) := by
  induction ns with
  | nil => exact .refl _
  | cons m ms ih =>
    rw [placeByRank]
    split
    · exact .refl _
    · exact (ih.cons m).trans (.swap n m ms)

theorem inRankOrder_perm (rank : StreamNo → Nat) (ns : List StreamNo) : (inRankOrder rank ns).Perm ns := by
  induction ns with
  | nil => exact .refl _
  | cons n ns ih => exact (placeByRank_perm rank n _).trans (ih.cons n)

theorem releaseStreams_of_records (ns : List StreamNo) (s : State) :
    (ns.map fun n => State.releaseRecord n s).filterMap releaseStream = ns := by
  rw [List.filterMap_map]
  exact List.filterMap_some

theorem Agrees.leaveIfDone {ranged : Prop} {s : State} (h : Agrees ranged s) : Agrees ranged s.leaveIfDone :=
  ⟨h.line.leaveIfDone, h.map.leaveIfDone⟩

theorem appendRecords_ann {s u : State} (ann : u.ann = s.ann) (rs : List Record) :
    (State.appendRecords rs u).ann = { s.ann with queue := s.ann.queue ++ rs } := by rw [← ann]; rfl

/-- R68, R80: CLOSE_STREAM on an open stream. -/
theorem closeStream_agrees {ranged : Prop} {n : StreamNo} {s : State} (h : Agrees ranged s) (isOpen : s.streams[n].isOpen = true) :
    Agrees ranged (State.closeStream n s) := by
  have view := mapView_beginClose n s
  have lineView := attemptView_beginClose s n
  simp only [State.closeStream]
  generalize State.beginClose n s = u at view lineView
  refine Agrees.leaveIfDone ⟨h.line.of_view ?_, ?_⟩
  · split
    · exact lineView
    · exact lineView
  · have setup : u.setup = s.setup := congrArg MapView.setup view
    have map : u.map = s.map := congrArg MapView.map view
    have ann : u.ann = s.ann := congrArg MapView.ann view
    have rests (rest : Resting u) : Resting s := by
      rwa [Resting, show u.station.state = s.station.state from congrArg MapView.state view] at rest
    have lists (m : StreamNo) : listsOf u.streams[m] = closedLists (· = n) s m := congrFun (congrArg MapView.lists view) m
    have opens : ∀ m, m = n → s.streams[m].isOpen = true := fun m here => here ▸ isOpen
    split
    · next releasing =>
      exact MapAgrees.close (rs := [State.releaseRecord n u]) (t := State.appendRecords [State.releaseRecord n u] u)
        ⟨opens, setup, map, appendRecords_ann ann _, rests, lists, fun r mem => ⟨n, rfl, releasing, List.mem_singleton.mp mem⟩,
          List.nodup_singleton n⟩ h.map
    · exact MapAgrees.close (rs := []) (t := u)
        ⟨opens, setup, map, by rw [ann, List.append_nil], rests, lists, fun _ none => absurd none List.not_mem_nil,
          List.nodup_nil⟩ h.map

theorem takeCloseStream_agrees {ranged : Prop} (args : List Byte) {s : State} (h : Agrees ranged s) :
    Agrees ranged (takeCloseStream args s).after := by
  unfold takeCloseStream
  split
  · exact h
  · next n _ =>
    split
    · exact h
    · next isOpen =>
      rw [Bool.not_eq_true', Bool.not_eq_false] at isOpen
      exact Agrees.changing (closeStream_agrees h isOpen)

/-- R157: STOP in ACTIVE. -/
theorem beginLeave_agrees {ranged : Prop} {s : State} (h : Agrees ranged s) : Agrees ranged s.beginLeave := by
  have leaving : Agrees ranged { s with station := { s.station with state := .leaving } } := by
    refine ⟨AttemptView.Agrees.changeState h.line .leaving (fun _ => .inr rfl) (fun rest => rest.elim nofun nofun), h.map.changeState rfl ?_⟩
    simp [Resting]
  have closing (n : StreamNo) : n ∈ (List.finRange 8).filter (fun n => s.streams[n].isOpen) ↔ s.streams[n].isOpen = true := by
    rw [List.mem_filter, and_iff_right (List.mem_finRange n)]
  simp only [State.beginLeave]
  have nodup : ((List.finRange 8).filter fun n => s.streams[n].isOpen).Nodup := (List.nodup_finRange 8).filter _
  generalize (List.finRange 8).filter (fun n => s.streams[n].isOpen) = ns at closing nodup
  generalize start : ({ s with station := { s.station with state := .leaving } } : State) = v at leaving
  have view := mapView_closeStreams ns v
  have lineView := attemptView_closeStreams ns v
  generalize State.closeStreams ns v = u at view lineView
  have perm := inRankOrder_perm (Config.stopRank s.choices) (ns.filter fun n => u.streams[n].state == .releasing)
  generalize inRankOrder (Config.stopRank s.choices) (ns.filter fun n => u.streams[n].state == .releasing) = order at perm
  refine Agrees.leaveIfDone ⟨leaving.line.of_view lineView, ?_⟩
  have setup : u.setup = v.setup := congrArg MapView.setup view
  have map : u.map = v.map := congrArg MapView.map view
  have ann : u.ann = v.ann := congrArg MapView.ann view
  have rests (rest : Resting u) : Resting v := by
    rwa [Resting, show u.station.state = v.station.state from congrArg MapView.state view] at rest
  have lists (m : StreamNo) : listsOf u.streams[m] = closedLists (· ∈ ns) v m := congrFun (congrArg MapView.lists view) m
  refine (MapAgrees.close (p := (· ∈ ns)) (rs := order.map fun n => State.releaseRecord n u)
    (t := State.appendRecords (order.map fun n => State.releaseRecord n u) u)
    ⟨fun n mem => ?_, setup, map, appendRecords_ann ann _, rests, lists, fun r mem => ?_, ?_⟩ leaving.map).of_view rfl
  · rw [← start]; exact (closing n).mp mem
  · obtain ⟨n, place, rfl⟩ := List.mem_map.mp mem
    obtain ⟨mem, releasing⟩ := List.mem_filter.mp (perm.mem_iff.mp place)
    exact ⟨n, mem, beq_iff_eq.mp releasing, rfl⟩
  · rw [releaseStreams_of_records]
    exact perm.nodup_iff.mpr (nodup.filter _)

theorem takeStop_agrees {ranged : Prop} (args : List Byte) {s : State} (h : Agrees ranged s) :
    Agrees ranged (takeStop args s).after := by
  unfold takeStop
  split
  · exact Agrees.changing h.enterOffline
  · exact Agrees.changing h.enterOffline
  · exact Agrees.changing (beginLeave_agrees h)
  · exact h

end Sys2Proof.Proofs
end

section
/-! SUPPORT. The port, the pins and the step, and the statement that every step keeps map and streams in agreement. -/

namespace Sys2Proof.Proofs

open Sys2Proof Sys2Proof.Machine Sys2Proof.Safety

/-! ### Requests on streams and taps -/

/-- R48, R79: a stream right after it is opened. -/
theorem opening_fits {reload wanted : Nat} (some : 1 ≤ reload) (few : wanted ≤ 8) (st : Stream) :
    StreamFits reload (st.opening wanted reload) :=
  ⟨few, le_refl _, ⟨Nat.zero_le _, iff_of_false (by show reload ≠ 0; omega) (not_not_intro rfl)⟩, Nat.zero_le _,
    Nat.zero_le _, nofun⟩

/-- R79, R80: a CLOSED stream has no slot and claims none. -/
theorem nothing_spoken {s : State} (releases : ReleasesCover s) (mirror : ListsMirrorMap s) {n : StreamNo}
    (shut : s.streams[n].state = .closed) : spoken s n = 0 := by
  obtain ⟨noHeld, noPending⟩ := releases.closed_empty n shut
  have noOffer : offered s.ann.offer n = 0 := by
    unfold offered
    split
    · next a offer => exact if_neg fun ⟨kind, here⟩ => releases.claim_open a offer kind (here ▸ shut)
    · rfl
  rw [spoken_eq mirror, noOffer, Stream.slots, noHeld, noPending]
  rfl

/-- R79: OPEN_STREAM on a CLOSED stream. -/
theorem openStream_mapAgrees {ranged : Prop} {s : State} (h : MapAgrees ranged s) {n : StreamNo}
    (shut : s.streams[n].state = .closed) {wanted : Nat} (few : wanted ≤ 8) :
    MapAgrees ranged (State.modifyStream n (Stream.opening wanted s.setup.attemptReload) s) := by
  obtain ⟨rests, ⟨closed, claim, record, flight, differ⟩, mirror, ranges⟩ := h
  obtain ⟨noHeld, noPending⟩ := closed n shut
  generalize opens : State.modifyStream n (Stream.opening wanted s.setup.attemptReload) s = t
  have streams (m : StreamNo) : t.streams[m] =
      if m = n then s.streams[n].opening wanted s.setup.attemptReload else s.streams[m] := by
    rw [← opens, State.modifyStream, vector_set_get]
  have setup : t.setup = s.setup := by rw [← opens]; rfl
  have map : t.map = s.map := by rw [← opens]; rfl
  have ann : t.ann = s.ann := by rw [← opens]; rfl
  have station : t.station = s.station := by rw [← opens]; rfl
  have own : t.own = s.own := by rw [State.own, setup]; rfl
  have lists (m : StreamNo) : t.streams[m].held = s.streams[m].held ∧ t.streams[m].pending = s.streams[m].pending := by
    rw [streams]
    split
    · next here => rw [here, noHeld, noPending]; exact ⟨rfl, rfl⟩
    · exact ⟨rfl, rfl⟩
  have slots (m : StreamNo) : t.streams[m].slots = s.streams[m].slots := by
    rw [Stream.slots, (lists m).1, (lists m).2]; rfl
  have other {m : StreamNo} (awake : s.streams[m].state ≠ .closed) : t.streams[m] = s.streams[m] := by
    rw [streams, if_neg fun here : m = n => awake (here ▸ shut)]
  have releases {m : StreamNo} (is : s.streams[m].state = .releasing) : t.streams[m] = s.streams[m] :=
    other (by rw [is]; nofun)
  have spoke (m : StreamNo) : spoken t m = spoken s m := by rw [spoken, (lists m).1, (lists m).2, ann]; rfl
  refine ⟨fun rest => ?_, ⟨fun m is => ?_, fun a is kind => ?_, fun m set mem => ?_, fun a is kind => ?_, by rwa [ann]⟩,
    fun m k => ?_, fun r => ?_⟩
  · obtain ⟨clear, empty, reset⟩ := rests (by rwa [Resting, station] at rest)
    rw [map, ann]
    exact ⟨clear, fun m => by rw [(lists m).1, (lists m).2]; exact empty m, reset⟩
  · rw [streams] at is
    split at is
    · cases is
    · rw [(lists m).1, (lists m).2]; exact closed m is
  · have notClosed := claim a (ann ▸ is) kind
    rw [other notClosed]; exact notClosed
  · obtain ⟨releasing, covers⟩ := record m set (ann ▸ mem)
    rw [releases releasing]; exact ⟨releasing, covers⟩
  · obtain ⟨releasing, covers, alone⟩ := flight a (ann ▸ is) kind
    rw [releases releasing, map, own]; exact ⟨releasing, covers, alone⟩
  · rw [(lists m).1, (lists m).2, map, own]; exact mirror m k
  · obtain ⟨⟨reload, fits⟩, ⟨within, total, claims, objects⟩⟩ := (streamsInRange_iff s).mp (ranges r)
    refine (streamsInRange_iff t).mpr ⟨⟨setup ▸ reload, fun m => ?_⟩, ⟨fun m => ?_, ?_, fun a is kind => ?_, by rwa [ann]⟩⟩
    · rw [setup, streams]
      split
      · exact opening_fits reload.1 few _
      · exact fits m
    · rw [spoke]
      by_cases here : m = n
      · rw [here, nothing_spoken ⟨closed, claim, record, flight, differ⟩ mirror shut]; exact Nat.zero_le _
      · rw [streams, if_neg here]; exact within m
    · simp only [spoke]; exact total
    · rw [other (claim a (ann ▸ is) kind)]; exact claims a (ann ▸ is) kind

theorem openStreamArgs_wanted {args : List Byte} {n : StreamNo} {wanted : Nat}
    (found : openStreamArgs args = some (n, wanted)) : wanted ≤ 8 := by
  unfold openStreamArgs at found
  split at found
  · simp only [Option.bind_eq_bind, Option.bind_eq_some_iff] at found
    obtain ⟨stream, -, count, bounds, is⟩ := found
    cases is
    exact (rangeArg_bounds bounds).2
  · cases found

theorem takeOpenStream_agrees {ranged : Prop} (args : List Byte) {s : State} (h : Agrees ranged s) :
    Agrees ranged (takeOpenStream args s).after := by
  unfold takeOpenStream
  split
  · exact h
  · next n wanted found =>
    split
    · exact h
    · next free =>
      have shut : s.streams[n].state = .closed := by
        rw [not_or, not_not] at free; exact free.1
      refine Agrees.changing (f := State.modifyStream n _) ⟨h.line.of_view (attemptView_modifyStream s n fun st => rfl), ?_⟩
      exact openStream_mapAgrees h.map shut (openStreamArgs_wanted found)

section Requests
variable (args : List Byte) (s : State)

theorem takeSuspended_views (value : Bool) : SameViews s (takeSuspended value args s).after := by
  unfold takeSuspended
  split
  · exact .refl s
  · next n _ =>
    split
    · exact .refl s
    · exact sameViews_modifyStream s n (f := fun st => { st with suspended := value }) (fun _ => rfl) fun _ => rfl

theorem takePush_views : SameViews s (takePush args s).after := by
  have queued (n : StreamNo) (payload : List Byte) :
      SameViews s (State.takeBuffer (State.modifyStream n (fun st => { st with queue := st.queue ++ [payload] }) s)) :=
    have same := sameViews_modifyStream s n (f := fun st => { st with queue := st.queue ++ [payload] }) (fun _ => rfl) fun _ => rfl
    ⟨same.line, same.map⟩
  unfold takePush
  split
  · exact .refl s
  · split_ifs
    · exact .refl s
    · exact .refl s
    · exact .refl s
    · exact queued _ _

theorem takeFlush_views : SameViews s (takeFlush args s).after := by
  unfold takeFlush
  split
  · exact .refl s
  · split
    · exact .refl s
    · exact ⟨attemptView_flush s _, mapView_flush s _⟩

theorem takeTapOn_views : SameViews s (takeTapOn args s).after := by
  unfold takeTapOn
  split
  · exact .refl s
  · split_ifs <;> exact ⟨rfl, rfl⟩

theorem takeTapOff_views : SameViews s (takeTapOff args s).after := by
  unfold takeTapOff
  split
  · exact .refl s
  · split <;> exact ⟨rfl, rfl⟩

theorem takePull_views : SameViews s (takePull args s).after := by
  unfold takePull
  split
  · exact .refl s
  · split
    · exact .refl s
    · split <;> exact ⟨rfl, rfl⟩

theorem takeReadStream_views : SameViews s (takeReadStream args s).after := by
  unfold takeReadStream; split <;> exact ⟨rfl, rfl⟩

theorem takeReadTap_views : SameViews s (takeReadTap args s).after := by
  unfold takeReadTap; split <;> exact ⟨rfl, rfl⟩

theorem takeSetEnables_views : SameViews s (takeSetEnables args s).after := by
  unfold takeSetEnables; split <;> exact ⟨rfl, rfl⟩

theorem answerOut_views : SameViews s s.answerOut := by
  have commit : SameViews s s.commitOwed := by
    unfold State.commitOwed
    split
    · unfold State.commitPull; split <;> exact ⟨rfl, rfl⟩
    · exact ⟨rfl, rfl⟩
    · exact .refl s
  exact ⟨commit.line, commit.map⟩

end Requests

/-! ### The port -/

/-- 10.6: every row of the request table keeps both agreements. -/
theorem row_agrees {ranged : Prop} {row : RequestRow} (mem : row ∈ requestTable) (args : List Byte) {s : State}
    (h : Agrees ranged s) : Agrees ranged (row.take args s).after := by
  simp only [requestTable, List.mem_cons, List.not_mem_nil, or_false] at mem
  rcases mem with rfl | rfl | rfl | rfl | rfl | rfl | rfl | rfl | rfl | rfl | rfl | rfl | rfl | rfl | rfl | rfl | rfl | rfl | rfl
  · exact takeSetup_agrees args h
  · exact takeStart_agrees args h
  · exact takeStop_agrees args h
  · exact h.of_views ⟨rfl, rfl⟩
  · exact takeOpenStream_agrees args h
  · exact takeCloseStream_agrees args h
  · exact h.of_views (takeSuspended_views args s true)
  · exact h.of_views (takeSuspended_views args s false)
  · exact h.of_views (takePush_views args s)
  · exact h.of_views (takeFlush_views args s)
  · exact h.of_views (takeTapOn_views args s)
  · exact h.of_views (takeTapOff_views args s)
  · exact h.of_views (takePull_views args s)
  · exact h
  · exact h.of_views (takeReadStream_views args s)
  · exact h.of_views (takeReadTap_views args s)
  · exact h
  · exact h.of_views ⟨rfl, rfl⟩
  · exact h.of_views (takeSetEnables_views args s)

/-- R175: what the port makes of a complete request. -/
theorem answerRequest_agrees {ranged : Prop} (code count : Byte) (args : List Byte) {s : State} (h : Agrees ranged s) :
    Agrees ranged (answerRequest (requestRow code) count args s).after := by
  unfold answerRequest
  split
  · exact h
  · split
    · exact h
    · next row found =>
      split
      · exact h
      · exact row_agrees (List.mem_of_find?_eq_some found) args h

theorem takeRequest_agrees {ranged : Prop} {s : State} (h : Agrees ranged s) : Agrees ranged s.takeRequest := by
  have ready : Agrees ranged (State.modifyPort (fun p => { p with phase := .answer }) s) := h.of_views ⟨rfl, rfl⟩
  exact (answerRequest_agrees _ _ _ ready).of_views ⟨rfl, rfl⟩

/-- R172 to R176: one byte. -/
theorem clock_agrees {ranged : Prop} {s : State} (h : Agrees ranged s) (b : Byte) : Agrees ranged (State.clock s b) := by
  unfold State.clock
  split
  · exact h
  · split
    · exact h
    · exact h.of_views ⟨rfl, rfl⟩
    · simp only [State.clockCount]
      split
      · exact h.of_views ⟨rfl, rfl⟩
      · exact takeRequest_agrees (h.of_views ⟨rfl, rfl⟩)
    · simp only [State.clockArgument]
      split
      · exact h.of_views ⟨rfl, rfl⟩
      · exact takeRequest_agrees (h.of_views ⟨rfl, rfl⟩)
    · unfold State.clockAnswer
      split
      · exact h.of_views ⟨rfl, rfl⟩
      · exact h.of_views (answerOut_views s)
    · exact h.of_views ⟨rfl, rfl⟩

theorem clockBytes_agrees {ranged : Prop} (bytes : List Byte) {s : State} (h : Agrees ranged s) :
    Agrees ranged (State.clockBytes bytes s) := by
  induction bytes generalizing s with
  | nil => exact h
  | cons b bytes ih => exact ih (clock_agrees h b)

/-! ### Pins and resets -/

/-- R147, R148: every block at its values after reset. -/
theorem resetBlocks_agrees {ranged : Prop} {r : Setup} (reload : ranged → 1 ≤ r.attemptReload ∧ r.attemptReload ≤ 15) (s : State) :
    Agrees ranged (State.resetBlocks r s) := by
  have streams (n : StreamNo) : (State.resetBlocks r s).streams[n] = .reset r.attemptReload := Vector.getElem_replicate _
  have clear : MapClear (State.resetBlocks r s).map := fun k => Vector.getElem_replicate _
  refine ⟨⟨nofun, nofun, nofun, nofun, nofun, fun n => ?_, rfl, fun _ => ⟨rfl, rfl, rfl⟩⟩,
    .of_empty (fun n => ?_) rfl (fun k => ?_) (fun _ => clear) fun holds => ⟨reload holds, fun n => ?_⟩⟩
  · show (State.resetBlocks r s).streams[n].inFlight.isSome = false
    rw [streams]; rfl
  · rw [streams]; exact ⟨rfl, rfl⟩
  · rw [clear k]; rfl
  · rw [streams]
    refine ⟨Nat.zero_le _, le_refl _, ⟨Nat.zero_le _, iff_of_false ?_ (not_not_intro rfl)⟩, Nat.zero_le _, Nat.zero_le _, nofun⟩
    exact Nat.ne_of_gt (reload holds).1

theorem pinReset_agrees (ranged : Prop) (s : State) : Agrees ranged s.pinReset :=
  resetBlocks_agrees (fun _ => ⟨by decide, by decide⟩) _

theorem selFalls_views (s : State) : SameViews s s.selFalls := by
  unfold State.selFalls
  split
  · exact .refl s
  · dsimp only; split <;> exact ⟨rfl, rfl⟩

theorem selRises_agrees {ranged : Prop} {s : State} (h : Agrees ranged s) : Agrees ranged s.selRises := by
  unfold State.selRises
  split
  · dsimp only
    split
    · exact resetBlocks_agrees (fun holds => (h.map.countsFit holds).1) _
    · refine h.of_views ?_
      unfold State.abandonCommit
      split <;> exact ⟨rfl, rfl⟩
  · exact h

theorem pinResetRelease_views (s : State) : SameViews s s.pinResetRelease := by
  unfold State.pinResetRelease; split <;> exact ⟨rfl, rfl⟩

/-- R149: in INITIALISING and in OFFLINE the same blocks rest. -/
theorem initialisationEnd_agrees {ranged : Prop} {s : State} (h : Agrees ranged s) : Agrees ranged s.initialisationEnd := by
  unfold State.initialisationEnd
  split
  · next ended =>
    have still : (attemptView s).drives = false := by
      show (s.station.state == .active || s.station.state == .leaving) = false
      rw [ended.1]; rfl
    have initialising : s.station.state = .initialising := ended.1
    exact ⟨h.line.changeState .offline (fun drives => nomatch still.symm.trans drives) fun _ => .inl initialising,
      h.map.changeState rfl fun _ => .inl initialising⟩
  · exact h

end Sys2Proof.Proofs
end

section
/-! SUPPORT. The statement that every step keeps map and streams in agreement, command by command. -/

namespace Sys2Proof.Proofs

open Sys2Proof Sys2Proof.Machine Sys2Proof.Safety

theorem heardBoundary_agrees {ranged : Prop} {s : State} (h : Agrees ranged s) (due : s.heardDue = true) :
    Agrees ranged (State.boundary .heard s) := by
  have due := (heardDue_iff s).mp due
  have still := still_of_due h.line due
  exact ⟨boundary_agrees h.line still .heard, h.map.boundary h.line still (awake_of_running h.line due.1) .heard⟩

theorem boundaryWith_bothAgree {ranged : Prop} {s : State} (h : Agrees ranged s) (p : BoundaryKind → Bool) :
    Agrees ranged (State.boundaryWith p s) := ⟨boundaryWith_agrees h.line p, boundaryWith_mapAgrees h.map h.line p⟩

theorem markReceived_agrees {ranged : Prop} {s : State} (h : Agrees ranged s) (offset sender : Nat) :
    Agrees ranged (State.markReceived offset sender s) :=
  ⟨receiveWhole_agrees (fun _ hu => hu.of_view (attemptView_takeMark _ _)) offset h.line,
    receiveWhole_mapAgrees (fun _ hu _ => hu.of_view (mapView_takeMark _ _)) offset h.map h.line⟩

/-- R40, R44: an announcement of another station, for what the map makes of it. -/
theorem heard_agrees {ranged : Prop} {s : State} (h : Agrees ranged s) (offset : Nat) (a : Announcement)
    {apply : State → State} (view : ∀ u, attemptView (apply u) = attemptView u)
    (applies : ∀ u, MapAgrees ranged u → ¬ Resting u → a.sender ≠ u.own → MapAgrees ranged (apply u)) :
    Agrees ranged (State.announcementReceived offset a apply s) :=
  ⟨announcementReceived_agrees h.line offset a view, announcementReceived_mapAgrees h.map h.line offset a applies⟩

/-- Every command that is carried out keeps both agreements. -/
theorem exec_agrees {ranged : Prop} {c : Instr} {s t : State} (h : Agrees ranged s) (moves : exec c s = .next t) :
    Agrees ranged t := by
  have line := h.line
  have clocked (bytes : List Byte) : Agrees ranged (State.clockBytes bytes s) := clockBytes_agrees bytes h
  have named (p : BoundaryKind → Bool) : Agrees ranged (State.boundaryWith p s) := boundaryWith_bothAgree h p
  cases c <;> cases moves
  case unknownRequest code bytes =>
    split
    · exact h
    · exact clocked _
  case pullCommit =>
    split
    · exact h.of_views (answerOut_views s)
    · exact h
  case readEventsCommit =>
    split
    · exact h.of_views (answerOut_views s)
    · exact h
  case selFalls => exact h.of_views (selFalls_views s)
  case selRises => exact selRises_agrees h
  case pinReset => exact pinReset_agrees ranged s
  case pinResetRelease => exact h.of_views (pinResetRelease_views s)
  case initialisationEnd => exact initialisationEnd_agrees h
  case breakRecognised rx => exact ⟨recogniseBreak_agrees line rx, recogniseBreak_mapAgrees h.map line rx⟩
  case lineDominant => exact h.of_views ⟨lineHeld_view s, lineHeld_mapView s⟩
  case heardBoundary =>
    split
    · next due => exact heardBoundary_agrees h due
    · exact h
  case markTimerExpiry run rx => exact ⟨markTimerExpiry_agrees line run rx, markTimerExpiry_mapAgrees h.map line run rx⟩
  case loneStart run => exact ⟨loneStart_agrees line run, loneStart_mapAgrees h.map run⟩
  case shortRunEnd run stopBit => exact ⟨shortRunEnd_agrees line run stopBit, shortRunEnd_mapAgrees h.map line run stopBit⟩
  case slotStart k rx => exact ⟨slotStart_agrees line k rx, slotStart_mapAgrees h.map line k rx⟩
  case windowStart w rx => exact ⟨windowStart_agrees line w rx, windowStart_mapAgrees h.map line w rx⟩
  case gapStart rx => exact ⟨gapStart_agrees line rx, gapStart_mapAgrees h.map line rx⟩
  case attemptStart run rx => exact ⟨attemptStart_agrees line run rx, h.map.of_view (attemptStart_mapView run rx s)⟩
  case arbitrationMismatch bit => exact ⟨arbitrationMismatch_agrees line bit, h.map.of_view (arbitrationMismatch_mapView bit s)⟩
  case transmitFault bit => exact ⟨transmitFault_agrees line bit, transmitFault_mapAgrees h.map line bit⟩
  case breakAttemptComplete => exact ⟨breakComplete_agrees line, h.map.of_view (breakComplete_mapView s)⟩
  case attemptComplete => exact ⟨attemptComplete_agrees line, attemptComplete_mapAgrees h.map line⟩
  case markReceived offset sender => exact markReceived_agrees h offset sender
  case slotFrameReceived offset f => exact ⟨slotFrameReceived_agrees line offset f, slotFrameReceived_mapAgrees h.map line offset f⟩
  case claimReceived offset sender n slots =>
    exact heard_agrees h offset _ (hearClaim_view sender n slots) fun u hu awake other =>
      hearClaim_mapAgrees hu awake sender n slots other
  case releaseReceived offset sender n slots =>
    exact heard_agrees h offset _ (fun u => attemptView_changeMap u _) fun u hu awake other =>
      hearRelease_mapAgrees hu awake sender slots other
  case objectReceived offset sender n k aux =>
    exact heard_agrees h offset _ (hearObject_view sender n k aux) fun u hu awake other =>
      hearObject_mapAgrees hu awake sender n k aux other
  case receiveError offset bits => exact ⟨receiveError_agrees line _, receiveError_mapAgrees h.map _⟩
  case lapse | confirmed | quarantineEnd | backoffEnd | stalled | closeLimit | faultThreshold | mutePeriodEnd | join =>
    exact named _
  all_goals exact clocked _

/-- Settles O59: the attempts, the lists and their ranges are kept together, command by command. -/
theorem stepsKeepMapAndStreams : Obligations.StepsKeepMapAndStreams := by
  intro s t agrees moves
  rw [agrees_iff]
  obtain ⟨line, map⟩ := agrees_iff.mp ⟨agrees, fun ranges : StreamsInRange s => ranges⟩
  have both : Agrees (StreamsInRange s) s := ⟨line, map⟩
  suffices kept : Agrees (StreamsInRange s) t from ⟨kept.line, kept.map⟩
  unfold step at moves
  split at moves
  · cases moves; exact both
  · next c rest _ =>
    have popped : Agrees (StreamsInRange s) { s with pending := rest } := both.of_views ⟨rfl, rfl⟩
    exact exec_agrees popped moves

end Sys2Proof.Proofs
end

section
/-! SUPPORT. The attempts agree after every command, whatever else the state holds: a station that is awake rests nothing,
and one in INITIALISING or OFFLINE drives nothing. -/

namespace Sys2Proof.Proofs

open Sys2Proof Sys2Proof.Machine Sys2Proof.Safety

/-! ### States in which nothing is current -/

/-- Nothing is current, nothing is owed and nothing flies, and a break in progress has closed the segment. -/
structure AttemptView.Dormant (v : AttemptView) : Prop where
  idle     : v.transmit = .idle
  released : v.txd = .recessive
  owes     : v.owed = false
  silent   : v.offer = none
  landed   : v.flying = fun _ => false
  closed   : v.inBreak = true → v.segment = .outside

/-- A state in which nothing is current. -/
abbrev LineSleeps (s : State) : Prop := (attemptView s).Dormant

theorem LineAgrees.attempts {s : State} (h : LineAgrees s) : AttemptsAgree s := ((lineAgrees_iff s).mp h).1

theorem lineAgrees_of_awake {s : State} (h : AttemptsAgree s) (awake : ¬ Resting s) : LineAgrees s :=
  (lineAgrees_iff s).mpr ⟨h, fun rest => absurd rest awake⟩

theorem LineSleeps.attempts {s : State} (h : LineSleeps s) : AttemptsAgree s := by
  obtain ⟨idle, released, owes, silent, landed, closed⟩ := h
  have idle : s.line.transmit = .idle := idle
  refine ⟨fun busy => absurd idle busy, fun owed => (nomatch owes.symm.trans owed),
    fun dominant => (nomatch released.symm.trans dominant), fun _ => .inl idle, closed, fun n => ?_, ?_⟩
  · rw [idle]; exact congrFun landed n
  · rw [idle]; exact silent

theorem LineSleeps.of_view {s t : State} (h : LineSleeps s) (view : attemptView t = attemptView s) : LineSleeps t := by
  rwa [LineSleeps, view]

/-- R128: a resting station may not drive. -/
theorem still_of_resting {s : State} (rest : Resting s) : s.mayDrive = false := by
  rcases rest with state | state <;> simp [State.mayDrive, state]

theorem sleeps_of_still {s : State} (h : AttemptsAgree s) (still : s.mayDrive = false) : LineSleeps s := by
  have idle : s.line.transmit = .idle := by
    by_contra busy
    exact nomatch still.symm.trans (h.driving_allowed busy)
  refine ⟨idle, ?_, ?_, ?_, funext fun n => ?_, h.break_closed⟩
  · cases level : s.line.txd with
    | recessive => exact level
    | dominant =>
      obtain ⟨a, driving⟩ := h.txd_driven level
      exact nomatch idle.symm.trans driving
  · cases owes : s.timer.markOwed with
    | false => exact owes
    | true => exact nomatch still.symm.trans (h.owed_allowed owes)
  · have offer := h.offer_flies
    rwa [idle] at offer
  · have flight := h.in_flight n
    rwa [idle] at flight

/-- What keeps the agreement of a station that is awake, and keeps asleep the line unit of one that is not. -/
theorem attempts_kept {s t : State} (h : AttemptsAgree s) (awake : LineAgrees s → LineAgrees t)
    (asleep : Resting s → LineSleeps s → LineSleeps t) : AttemptsAgree t := by
  by_cases rest : Resting s
  · exact (asleep rest (sleeps_of_still h (still_of_resting rest))).attempts
  · exact (awake (lineAgrees_of_awake h rest)).attempts

theorem attempts_of_view {s t : State} (h : AttemptsAgree s) (view : attemptView t = attemptView s) : AttemptsAgree t :=
  attempts_kept h (fun line => line.of_view view) fun _ sleeps => sleeps.of_view view

/-! ### A line unit that sleeps -/

section Asleep
variable {s : State} (rest : Resting s) (sleeps : LineSleeps s)

include sleeps in
/-- R2, R137: a segment opens, with no break in progress. -/
theorem LineSleeps.startSegment (g : Segment) {position : Nat} (rx : Option Stretch)
    (reported : State.reportsStart position s = true) : LineSleeps (State.startSegment g position rx s) := by
  have view := startSegment_view g position rx s
  rw [settle_of_idle sleeps.idle] at view
  rw [LineSleeps, view]
  obtain ⟨idle, released, owes, silent, landed, -⟩ := sleeps
  exact ⟨idle, released, owes, silent, landed, fun inBreak => (nomatch (quiet_of_reportsStart reported).2.symm.trans inBreak)⟩

include sleeps in
/-- R5: the new cycle of a boundary, with no mark owed. -/
theorem LineSleeps.openCycle (kind : BoundaryKind) : LineSleeps (State.openCycle kind s) := by
  obtain ⟨idle, released, owes, silent, landed, -⟩ := sleeps
  have view : attemptView (State.openCycle kind s) = { attemptView s with inBreak := false, segment := .markTail } := by
    have ended : s.endBreak = s := endBreak_idle idle
    have closed := attemptView_closeSegment s none
    simp only [State.openCycle, ended]
    generalize State.closeSegment none s = u at closed
    have owed : u.timer.markOwed = false := (congrArg AttemptView.owed closed).trans owes
    rw [← closed]
    cases kind with
    | synthesized => rfl
    | heard =>
      dsimp only
      rw [State.handMark, if_neg (by simpa [Timer.boundary] using owed)]
      rfl
  rw [LineSleeps, view]
  exact ⟨idle, released, owes, silent, landed, nofun⟩

include rest sleeps in
/-- Station control does nothing at a boundary that finds it resting. -/
theorem LineSleeps.boundary (kind : BoundaryKind) : LineSleeps (State.boundary kind s) := by
  have resting (m : State) : State.stationBoundary kind s.station.state m = m := by
    rcases rest with state | state <;> rw [state] <;> rfl
  rw [boundary_eq, resting, LineSleeps, attemptView_changing, attemptView_beforeStation]
  exact sleeps.openCycle kind

include sleeps in
/-- R6, R129: there is nothing to cut. -/
theorem LineSleeps.recogniseBreak (rx : Option Stretch) : LineSleeps (State.recogniseBreak rx s) := by
  unfold State.recogniseBreak
  split
  · have idle : s.line.transmit = .idle := sleeps.idle
    have uncut : s.cut = s := by rw [cut_eq, idle]; rfl
    have closed : attemptView (State.settleMark (State.breakSegment rx s.cut)) = { attemptView s with segment := .outside } := by
      rw [attemptView_settleMark, breakSegment_view, uncut]
    generalize State.settleMark (State.breakSegment rx s.cut) = u at closed ⊢
    obtain ⟨idle, released, owes, silent, landed, -⟩ := sleeps
    show AttemptView.Dormant { attemptView u with inBreak := true }
    rw [closed]
    exact ⟨idle, released, owes, silent, landed, fun _ => rfl⟩
  · exact sleeps

include rest in
/-- R9, R14: a resting station starts no break and takes no boundary of its own. -/
theorem markTimerExpiry_resting (run : Nat) (rx : Option Stretch) :
    attemptView (State.markTimerExpiry run rx s) = attemptView s := by
  unfold State.markTimerExpiry
  split
  · dsimp only
    split
    · rcases rest with state | state <;> rw [state] <;> exact attemptView_expire s run
    · exact attemptView_expire s run
  · rfl

include rest in
/-- R16: a resting station makes no lone start. -/
theorem loneStart_resting (run : Nat) : State.loneStart run s = s := by
  unfold State.loneStart
  rw [if_neg]
  rcases rest with state | state <;> simp [state]

include rest sleeps in
theorem shortRunEnd_resting (run : Nat) (stopBit : Bool) : attemptView (State.shortRunEnd run stopBit s) = attemptView s := by
  simp only [State.shortRunEnd, settle_of_idle sleeps.idle]
  split
  · have ended : attemptView (State.runSettled (State.runOver run (State.atRun 0
        (if framingRun run stopBit = true then State.rxError s else s)))) = attemptView s := by simp [apply_ite attemptView]
    generalize State.runSettled (State.runOver run (State.atRun 0
        (if framingRun run stopBit = true then State.rxError s else s))) = u at ended ⊢
    have state : u.station.state = s.station.state := congrArg AttemptView.state ended
    rw [State.loneStartSettled, if_neg, ended]
    rcases rest with is | is <;> simp [State.loneStartWaits, state, is]
  · rfl

include rest in
theorem startSegment_still (g : Segment) (position : Nat) (rx : Option Stretch) :
    (State.startSegment g position rx s).mayDrive = false := by
  have state : (State.startSegment g position rx s).station.state = s.station.state :=
    state_of_view (rangeView_startSegment s g position rx)
  rw [← still_of_resting rest, State.mayDrive, state]
  rfl

include rest sleeps in
theorem slotStart_resting (k : Slot) (rx : Option Stretch) : LineSleeps (State.slotStart k rx s) := by
  by_cases reported : State.reportsStart (slotStartAt k) s = true
  · have still : (atSlotStart k rx s).mayDrive = false := startSegment_still rest (.slot k) (slotStartAt k) rx
    rw [slotStart_eq ((reportsStart_iff _ _).mp reported), supply_none (.inl still)]
    exact sleeps.startSegment (.slot k) rx reported
  · rwa [State.slotStart, if_neg reported]

include rest sleeps in
theorem windowStart_resting (w : WindowNo) (rx : Option Stretch) : LineSleeps (State.windowStart w rx s) := by
  unfold State.windowStart
  split
  · next reported =>
    have started := sleeps.startSegment (.window w) rx reported
    have still : (State.clearLostNote (State.startSegment (.window w) (windowStartAt w) rx s)).mayDrive = false :=
      startSegment_still rest (.window w) (windowStartAt w) rx
    rw [LineSleeps, attemptView_changing, State.offer, if_neg (by simp [still])]
    exact started
  · exact sleeps

include sleeps in
/-- R133, R143: a frame is delivered to a station without an attempt. -/
theorem receiveWhole_sleeps {admits legal : Bool} {deliver : State → State}
    (delivers : ∀ u, LineSleeps u → LineSleeps (deliver u)) (offset : Nat) :
    LineSleeps (State.receiveWhole admits offset legal deliver s) := by
  have settled : State.settle (State.atRun 0 s) = State.atRun 0 s := settle_of_idle (s := State.atRun 0 s) sleeps.idle
  unfold State.receiveWhole
  split
  · dsimp only
    rw [settled]
    split
    · exact sleeps
    · exact sleeps.of_view (attemptView_rxError _)
    · split
      · exact delivers _ sleeps
      · exact sleeps.of_view (attemptView_rxError _)
  · exact sleeps

end Asleep

/-- R160: nothing is current in OFFLINE. -/
theorem clash_sleeps (s : State) : LineSleeps s.clash := by
  rw [LineSleeps, State.clash, attemptView_latches, attemptView_enterOffline]
  exact ⟨rfl, rfl, rfl, rfl, rfl, nofun⟩

/-! ### Requests -/

theorem enterOffline_attempts (s : State) : AttemptsAgree s.enterOffline := by
  refine LineAgrees.attempts ?_
  rw [LineAgrees, attemptView_enterOffline]
  exact offlineView_agrees

theorem leaveIfDone_attempts {s : State} (h : AttemptsAgree s) : AttemptsAgree s.leaveIfDone := by
  unfold State.leaveIfDone
  split
  · exact (leaveEnds_agrees s).attempts
  · exact h

theorem takeSetup_attempts (args : List Byte) {s : State} (h : AttemptsAgree s) : AttemptsAgree (takeSetup args s).after := by
  unfold takeSetup
  split
  · exact h
  · next record _ =>
    split
    · exact h
    · exact attempts_of_view h (attemptView_updateStreams { s with setup := record } fun _ _ => rfl)

theorem takeStart_attempts (args : List Byte) {s : State} (h : AttemptsAgree s) : AttemptsAgree (takeStart args s).after := by
  unfold takeStart
  split
  · exact h
  · next offline =>
    split
    · exact h
    · obtain ⟨idle, released, -, silent, landed, -⟩ := sleeps_of_still h (still_of_resting (.inr (not_not.mp offline)))
      have started : LineSleeps s.beginListening := ⟨idle, released, rfl, silent, landed, fun _ => rfl⟩
      exact started.attempts

/-- R157: a leave starts with what is current in ACTIVE. -/
theorem beginLeave_attempts {s : State} (h : AttemptsAgree s) (active : s.station.state = .active) :
    AttemptsAgree s.beginLeave := by
  have line := lineAgrees_of_awake h (by simp [Resting, active])
  have leaving : LineAgrees { s with station := { s.station with state := .leaving } } :=
    AttemptView.Agrees.changeState line .leaving (fun _ => .inr rfl) fun rest => rest.elim nofun nofun
  refine leaveIfDone_attempts (attempts_of_view leaving.attempts ?_)
  exact attemptView_closeStreams _ _

theorem takeStop_attempts (args : List Byte) {s : State} (h : AttemptsAgree s) : AttemptsAgree (takeStop args s).after := by
  unfold takeStop
  split
  · exact attempts_of_view (enterOffline_attempts s) (attemptView_changing s _)
  · exact attempts_of_view (enterOffline_attempts s) (attemptView_changing s _)
  · next active => exact attempts_of_view (beginLeave_attempts h active) (attemptView_changing s _)
  · exact h

theorem takeOpenStream_attempts (args : List Byte) {s : State} (h : AttemptsAgree s) :
    AttemptsAgree (takeOpenStream args s).after := by
  unfold takeOpenStream
  split
  · exact h
  · next n wanted _ =>
    split
    · exact h
    · exact attempts_of_view h (attemptView_modifyStream s n fun _ => rfl)

theorem closeStream_attempts (n : StreamNo) {s : State} (h : AttemptsAgree s) : AttemptsAgree (State.closeStream n s) := by
  have closed := attempts_of_view h (attemptView_beginClose s n)
  simp only [State.closeStream]
  generalize State.beginClose n s = u at closed ⊢
  refine leaveIfDone_attempts ?_
  split
  · exact attempts_of_view closed (attemptView_appendRecords u _)
  · exact closed

theorem takeCloseStream_attempts (args : List Byte) {s : State} (h : AttemptsAgree s) :
    AttemptsAgree (takeCloseStream args s).after := by
  unfold takeCloseStream
  split
  · exact h
  · next n _ =>
    split
    · exact h
    · exact attempts_of_view (closeStream_attempts n h) (attemptView_changing s _)

/-- 10.6: every row of the request table keeps the agreement. -/
theorem row_attempts {row : RequestRow} (mem : row ∈ requestTable) (args : List Byte) {s : State} (h : AttemptsAgree s) :
    AttemptsAgree (row.take args s).after := by
  simp only [requestTable, List.mem_cons, List.not_mem_nil, or_false] at mem
  rcases mem with rfl | rfl | rfl | rfl | rfl | rfl | rfl | rfl | rfl | rfl | rfl | rfl | rfl | rfl | rfl | rfl | rfl | rfl | rfl
  · exact takeSetup_attempts args h
  · exact takeStart_attempts args h
  · exact takeStop_attempts args h
  · exact attempts_of_view h rfl
  · exact takeOpenStream_attempts args h
  · exact takeCloseStream_attempts args h
  · exact attempts_of_view h (takeSuspended_views args s true).line
  · exact attempts_of_view h (takeSuspended_views args s false).line
  · exact attempts_of_view h (takePush_views args s).line
  · exact attempts_of_view h (takeFlush_views args s).line
  · exact attempts_of_view h (takeTapOn_views args s).line
  · exact attempts_of_view h (takeTapOff_views args s).line
  · exact attempts_of_view h (takePull_views args s).line
  · exact h
  · exact attempts_of_view h (takeReadStream_views args s).line
  · exact attempts_of_view h (takeReadTap_views args s).line
  · exact h
  · exact attempts_of_view h rfl
  · exact attempts_of_view h (takeSetEnables_views args s).line

/-! ### The port -/

theorem takeRequest_attempts {s : State} (h : AttemptsAgree s) : AttemptsAgree s.takeRequest := by
  have ready : AttemptsAgree (State.modifyPort (fun p => { p with phase := .answer }) s) := attempts_of_view h rfl
  unfold State.takeRequest
  refine attempts_of_view (s := (answerRequest _ _ _ _).after) ?_ rfl
  unfold answerRequest
  split
  · exact ready
  · split
    · exact ready
    · next row found =>
      split
      · exact ready
      · exact row_attempts (List.mem_of_find?_eq_some found) _ ready

/-- R172 to R176: one byte. -/
theorem clock_attempts {s : State} (h : AttemptsAgree s) (b : Byte) : AttemptsAgree (State.clock s b) := by
  unfold State.clock
  split
  · exact h
  · split
    · exact h
    · exact attempts_of_view h rfl
    · simp only [State.clockCount]
      split
      · exact attempts_of_view h rfl
      · exact takeRequest_attempts (attempts_of_view h rfl)
    · simp only [State.clockArgument]
      split
      · exact attempts_of_view h rfl
      · exact takeRequest_attempts (attempts_of_view h rfl)
    · unfold State.clockAnswer
      split
      · exact attempts_of_view h rfl
      · exact attempts_of_view h (answerOut_views s).line
    · exact attempts_of_view h rfl

theorem clockBytes_attempts (bytes : List Byte) {s : State} (h : AttemptsAgree s) :
    AttemptsAgree (State.clockBytes bytes s) := by
  induction bytes generalizing s with
  | nil => exact h
  | cons b bytes ih => exact ih (clock_attempts h b)

/-! ### Pins -/

theorem resetBlocks_attempts (r : Setup) (s : State) : AttemptsAgree (State.resetBlocks r s) := by
  have fresh (n : StreamNo) : (State.resetBlocks r s).streams[n] = .reset r.attemptReload := Vector.getElem_replicate _
  have sleeps : LineSleeps (State.resetBlocks r s) :=
    ⟨rfl, rfl, rfl, rfl, funext fun n => congrArg (fun st => st.inFlight.isSome) (fresh n), nofun⟩
  exact sleeps.attempts

theorem selRises_attempts {s : State} (h : AttemptsAgree s) : AttemptsAgree s.selRises := by
  unfold State.selRises
  split
  · dsimp only
    split
    · exact resetBlocks_attempts _ _
    · refine attempts_of_view h ?_
      unfold State.abandonCommit
      split <;> rfl
  · exact h

theorem initialisationEnd_attempts {s : State} (h : AttemptsAgree s) : AttemptsAgree s.initialisationEnd := by
  unfold State.initialisationEnd
  split
  · next ended =>
    have sleeps : LineSleeps s := sleeps_of_still h (still_of_resting (.inl ended.1))
    exact LineSleeps.attempts ⟨sleeps.idle, sleeps.released, sleeps.owes, sleeps.silent, sleeps.landed, sleeps.closed⟩
  · exact h

/-! ### Boundaries and receptions -/

theorem boundary_attempts {s : State} (h : AttemptsAgree s) {kind : BoundaryKind} (due : BoundaryDue s kind) :
    AttemptsAgree (State.boundary kind s) :=
  attempts_kept h (fun line => boundary_agrees line (still_of_due line due) kind) fun rest sleeps => sleeps.boundary rest kind

theorem boundaryWith_attempts {s : State} (h : AttemptsAgree s) (p : BoundaryKind → Bool) :
    AttemptsAgree (State.boundaryWith p s) := by
  unfold State.boundaryWith
  split
  · next kind due =>
    split
    · exact boundary_attempts h ((boundaryDue_eq_some s kind).mp due).1
    · exact h
  · exact h

theorem announcementReceived_attempts {s : State} (h : AttemptsAgree s) (offset : Nat) (a : Announcement)
    {apply : State → State} (view : ∀ u, attemptView (apply u) = attemptView u) :
    AttemptsAgree (State.announcementReceived offset a apply s) := by
  refine attempts_kept h (fun line => announcementReceived_agrees line offset a view) fun _ sleeps => ?_
  refine receiveWhole_sleeps sleeps (fun u hu => ?_) offset
  unfold State.deliverAnnouncement
  split
  · exact clash_sleeps u
  · exact hu.of_view (view u)

theorem slotFrameReceived_sleeps {s : State} (sleeps : LineSleeps s) (offset : Nat) (f : SlotFrame) :
    LineSleeps (State.slotFrameReceived offset f s) := by
  unfold State.slotFrameReceived
  split
  · refine receiveWhole_sleeps sleeps (fun u hu => ?_) offset
    unfold State.deliverFrame
    split
    · exact clash_sleeps u
    · exact hu.of_view (by simp [State.learnFrame])
  · exact sleeps

/-! ### The step -/

/-- With no attempt current, the events of an attempt are none. -/
theorem attemptEvents_idle {s : State} (idle : s.line.transmit = .idle) (run bit : Nat) (rx : Option Stretch) :
    State.attemptStart run rx s = s ∧ State.arbitrationMismatch bit s = s ∧ State.transmitFault bit s = s ∧
      State.breakComplete s = s ∧ State.attemptComplete s = s := by
  simp [State.attemptStart, State.arbitrationMismatch, State.transmitFault, State.breakComplete, State.attemptComplete, idle]

/-- Every command that is carried out keeps the attempts in agreement. -/
theorem exec_attempts {c : Instr} {s t : State} (h : AttemptsAgree s) (moves : exec c s = .next t) : AttemptsAgree t := by
  have clocked (bytes : List Byte) : AttemptsAgree (State.clockBytes bytes s) := clockBytes_attempts bytes h
  have named (p : BoundaryKind → Bool) : AttemptsAgree (State.boundaryWith p s) := boundaryWith_attempts h p
  cases c <;> cases moves
  case unknownRequest code bytes =>
    split
    · exact h
    · exact clocked _
  case pullCommit | readEventsCommit =>
    split
    · exact attempts_of_view h (answerOut_views s).line
    · exact h
  case selFalls => exact attempts_of_view h (selFalls_views s).line
  case selRises => exact selRises_attempts h
  case pinReset => exact resetBlocks_attempts _ _
  case pinResetRelease => exact attempts_of_view h (pinResetRelease_views s).line
  case initialisationEnd => exact initialisationEnd_attempts h
  case breakRecognised rx =>
    exact attempts_kept h (fun line => recogniseBreak_agrees line rx) fun _ sleeps => sleeps.recogniseBreak rx
  case lineDominant => exact attempts_of_view h (lineHeld_view s)
  case heardBoundary =>
    split
    · next due => exact boundary_attempts h ((heardDue_iff s).mp due)
    · exact h
  case markTimerExpiry run rx =>
    exact attempts_kept h (fun line => markTimerExpiry_agrees line run rx) fun rest sleeps =>
      sleeps.of_view (markTimerExpiry_resting rest run rx)
  case loneStart run =>
    exact attempts_kept h (fun line => loneStart_agrees line run) fun rest sleeps => (loneStart_resting rest run).symm ▸ sleeps
  case shortRunEnd run stopBit =>
    exact attempts_kept h (fun line => shortRunEnd_agrees line run stopBit) fun rest sleeps =>
      sleeps.of_view (shortRunEnd_resting rest sleeps run stopBit)
  case slotStart k rx =>
    exact attempts_kept h (fun line => slotStart_agrees line k rx) fun rest sleeps => slotStart_resting rest sleeps k rx
  case windowStart w rx =>
    exact attempts_kept h (fun line => windowStart_agrees line w rx) fun rest sleeps => windowStart_resting rest sleeps w rx
  case gapStart rx =>
    refine attempts_kept h (fun line => gapStart_agrees line rx) fun _ sleeps => ?_
    unfold State.gapStart
    split
    · next reported => exact sleeps.startSegment .gap rx reported
    · exact sleeps
  case attemptStart run rx =>
    exact attempts_kept h (fun line => attemptStart_agrees line run rx) fun _ sleeps =>
      (attemptEvents_idle sleeps.idle run 0 rx).1.symm ▸ sleeps
  case arbitrationMismatch bit =>
    exact attempts_kept h (fun line => arbitrationMismatch_agrees line bit) fun _ sleeps =>
      (attemptEvents_idle sleeps.idle 0 bit none).2.1.symm ▸ sleeps
  case transmitFault bit =>
    exact attempts_kept h (fun line => transmitFault_agrees line bit) fun _ sleeps =>
      (attemptEvents_idle sleeps.idle 0 bit none).2.2.1.symm ▸ sleeps
  case breakAttemptComplete =>
    exact attempts_kept h breakComplete_agrees fun _ sleeps => (attemptEvents_idle sleeps.idle 0 0 none).2.2.2.1.symm ▸ sleeps
  case attemptComplete =>
    exact attempts_kept h attemptComplete_agrees fun _ sleeps => (attemptEvents_idle sleeps.idle 0 0 none).2.2.2.2.symm ▸ sleeps
  case markReceived offset sender =>
    have taken (u : State) : attemptView (State.takeMark sender u) = attemptView u := attemptView_takeMark u sender
    exact attempts_kept h (fun line => receiveWhole_agrees (fun u hu => hu.of_view (taken u)) offset line) fun _ sleeps =>
      receiveWhole_sleeps sleeps (fun u hu => hu.of_view (taken u)) offset
  case slotFrameReceived offset f =>
    exact attempts_kept h (fun line => slotFrameReceived_agrees line offset f) fun _ sleeps =>
      slotFrameReceived_sleeps sleeps offset f
  case claimReceived offset sender n slots => exact announcementReceived_attempts h offset _ (hearClaim_view sender n slots)
  case releaseReceived offset sender n slots =>
    exact announcementReceived_attempts h offset _ fun u => attemptView_changeMap u _
  case objectReceived offset sender n k aux => exact announcementReceived_attempts h offset _ (hearObject_view sender n k aux)
  case receiveError offset bits =>
    refine attempts_of_view h ?_
    unfold State.receiveError
    split
    · simp
    · rfl
  case lapse | confirmed | quarantineEnd | backoffEnd | stalled | closeLimit | faultThreshold | mutePeriodEnd | join =>
    exact named _
  all_goals exact clocked _

/-- Settles O57: command by command, of a station that is awake and of one that rests. -/
theorem stepsKeepAttempts : Obligations.StepsKeepAttempts := by
  intro s t agrees moves
  unfold step at moves
  split at moves
  · cases moves; exact agrees
  · next c rest _ => exact exec_attempts (attempts_of_view (t := { s with pending := rest }) agrees rfl) moves

end Sys2Proof.Proofs
end

section
/-! SUPPORT. Streams that are closed by CLOSE_STREAM and by STOP (R68, R80, R157), and SOFT_RESET. -/

namespace Sys2Proof.Proofs

open Sys2Proof Sys2Proof.Machine Sys2Proof.Safety

/-! ### SOFT_RESET -/

/-- Settles O6: the request leaves a reset pending, and the rise of SEL makes it. -/
theorem softResetWaitsForSel : Obligations.SoftResetWaitsForSel := by
  intro s
  refine ⟨fun takes => ?_, fun low awaits => ?_⟩
  · have request : exec (.softReset [0]) s = .next (present (takeSoftReset [] (atTaking s 19 0 []))) :=
      congrArg _ (request_complete (row := { code := 19, needs := (· == 0), take := takeSoftReset }) takes rfl rfl (by decide) rfl)
    rw [request, takeSoftReset, present_taken]
    rfl
  · have made : s.selRises = State.softReset (State.setSel false s) := by
      rw [State.selRises, if_pos low]; exact if_pos awaits
    show Host.Outcome.next s.selRises = _
    rw [made]
    rfl

/-! ### One stream (R68, R80) -/

theorem streamArgs_byteOf (n : StreamNo) : streamArgs [byteOf n] = some n := by
  have small : (byteOf n).toNat = n := by
    rw [byteOf, BitVec.toNat_ofNat]; omega
  simp [streamArgs, streamArg, small]

theorem claimInFlight_iff (n : StreamNo) (s : State) : s.claimInFlight n = true ↔ ClaimFlies s n := by
  unfold State.claimInFlight ClaimFlies
  cases s.ann.offer <;> simp

/-- R80, R82: a stream whose queue is discarded and whose in-flight frame is marked discard-on-return. -/
def flushedStream (st : Stream) : Stream :=
  { st with queue := [], inFlight := st.inFlight.map fun f => { f with discard := true } }

/-- R80: a stream that is closed, with all its fields. -/
def shutStream (claims : Bool) (st : Stream) : Stream := closedStream claims (flushedStream st)

/-- R80: which streams have something to give up. -/
theorem gives_iff (s : State) (n : StreamNo) :
    (s.streams[n].slots != 0 || s.claimInFlight n) = true ↔ s.streams[n].slots ≠ 0 ∨ ClaimFlies s n := by
  rw [Bool.or_eq_true, bne_iff_ne, claimInFlight_iff]

theorem shutStream_gives {s : State} {n : StreamNo} (gives : s.streams[n].slots ≠ 0 ∨ ClaimFlies s n) :
    shutStream (s.claimInFlight n) s.streams[n] = { flushedStream s.streams[n] with state := .releasing, closeCount := 0 } :=
  if_pos ((gives_iff s n).mpr gives)

theorem shutStream_keeps {s : State} {n : StreamNo} (none : ¬ (s.streams[n].slots ≠ 0 ∨ ClaimFlies s n)) :
    shutStream (s.claimInFlight n) s.streams[n] = { flushedStream s.streams[n] with state := .closed } :=
  if_neg (mt (gives_iff s n).mp none)

/-- R68, R80: all that closing one stream does. -/
theorem beginClose_eq (n : StreamNo) (s : State) : State.beginClose n s = { s with
    streams := s.streams.set n (shutStream (s.claimInFlight n) s.streams[n])
    freeBuffers := s.freeBuffers + s.streams[n].queue.length } := by
  have flushed : State.modifyStream n Stream.discardInFlight (State.discardQueue n s) = { s with
      streams := s.streams.set n (flushedStream s.streams[n]), freeBuffers := s.freeBuffers + s.streams[n].queue.length } := by
    simp only [State.discardQueue, State.modifyStream, State.returnBuffers, Fin.getElem_fin, Vector.getElem_set_self,
      Vector.set_set]
    rfl
  simp only [State.beginClose, flushed]
  rw [shutStream, closedStream]
  have slots : (flushedStream s.streams[n]).slots = s.streams[n].slots := rfl
  rw [slots]
  split <;> simp only [State.modifyStream, Fin.getElem_fin, Vector.getElem_set_self, Vector.set_set]

/-- R98: an event that changes the state of one stream and no other stream is the cause of one CHANGE. -/
theorem changeFlags_one {s t : State} {n : StreamNo} {st : Stream} (streams : t.streams = s.streams.set n st)
    (moves : st.state ≠ s.streams[n].state) (f : Flag) : changeFlags s t f = oneFlag (.change n) f := by
  cases f with
  | change m =>
    simp only [changeFlags, streams, vector_set_get, oneFlag]
    by_cases here : m = n
    · subst here
      have differs : s.streams[m].visible ≠ st.visible := fun same => moves (congrArg Prod.fst same).symm
      rw [if_pos rfl, beq_self_eq_true]
      exact bne_iff_ne.mpr differs
    · rw [if_neg here, bne_self_eq_false]
      exact (beq_eq_false_iff_ne.mpr fun same => here (Flag.change.inj same)).symm
  | _ => simp [changeFlags, oneFlag]

/-- R98: the causes of an event that has no others and changes the state of one stream. -/
theorem latches_change {s u t : State} {n : StreamNo} {st : Stream} (latch : t.latch = s.latch)
    (streams : t.streams = u.streams.set n st) (moves : st.state ≠ u.streams[n].state) :
    Latches s (State.noteChanges u t) (oneFlag (.change n)) :=
  latches_congr (latches_noteChanges (latches_none latch)) fun f => by rw [changeFlags_one streams moves]; rfl

/-- Settles O8: by the request's check, and by whether the stream has something to give up. -/
theorem closeStreamByTable : Obligations.CloseStreamByTable := by
  intro s n takes
  have request : exec (.closeStream [1, byteOf n]) s = .next (present (takeCloseStream [byteOf n] (atTaking s 33 1 [byteOf n]))) :=
    congrArg _ (request_complete (row := { code := 33, needs := (· == 1), take := takeCloseStream }) takes rfl rfl (by decide) rfl)
  generalize taking : atTaking s 33 1 [byteOf n] = u at request
  have streams : u.streams = s.streams := by rw [← taking]; rfl
  have latch : u.latch = s.latch := by rw [← taking]; rfl
  have station : u.station = s.station := by rw [← taking]; rfl
  have claims : u.claimInFlight n = s.claimInFlight n := by rw [← taking]; rfl
  have shut := beginClose_eq n u
  rw [claims, streams] at shut
  have leaving (t : State) (awake : t.station.state ≠ .leaving ∨ t.streams[n].state = .releasing) : t.leaveIfDone = t :=
    leaveIfDone_open fun ⟨leaves, closed⟩ => by
      have := (allClosed_iff t).mp closed n
      rcases awake with other | releasing
      · exact other leaves
      · rw [this] at releasing; cases releasing
  have accepted (isOpen : StreamIsOpen s.streams[n]) : exec (.closeStream [1, byteOf n]) s =
      .next (present (taken (State.noteChanges u (State.closeStream n u)))) := by
    rw [request, takeCloseStream, streamArgs_byteOf]
    dsimp only
    rw [if_neg (by rw [streams, (isOpen_iff _).mpr isOpen]; nofun)]
    rfl
  intro closing
  refine ⟨fun isOpen gives => ?_, fun isOpen none stays => ?_, fun shut => ?_⟩
  · rw [shutStream_gives gives] at shut
    have moves : StreamState.releasing ≠ u.streams[n].state := by
      rw [streams]; rcases isOpen with h | h | h <;> rw [h] <;> nofun
    have closes : State.closeStream n u = { u with
        streams := s.streams.set n (closing .releasing 0), freeBuffers := u.freeBuffers + s.streams[n].queue.length
        ann := { u.ann with queue := u.ann.queue ++ [.release n (s.streams[n].held ||| s.streams[n].pending)] } } := by
      simp only [State.closeStream, shut, vector_set_get, if_true]
      rw [leaving _ (.inr (by simp [State.appendRecords]))]
      simp [State.appendRecords, State.setQueue, State.releaseRecord, closing, flushedStream, Stream.slots]
    have latches : Latches s (State.noteChanges u (State.closeStream n u)) (oneFlag (.change n)) :=
      latches_change (by rw [closes]; exact latch) (by rw [closes, streams]) moves
    refine ⟨_, accepted isOpen, ?_, latches_of_latch latches rfl⟩
    rw [closes, present_taken, ← taking]
    rfl
  · rw [shutStream_keeps none] at shut
    have moves : StreamState.closed ≠ u.streams[n].state := by
      rw [streams]; rcases isOpen with h | h | h <;> rw [h] <;> nofun
    have closes : State.closeStream n u = { u with
        streams := s.streams.set n (closing .closed s.streams[n].closeCount)
        freeBuffers := u.freeBuffers + s.streams[n].queue.length } := by
      simp only [State.closeStream, shut, vector_set_get, if_true]
      rw [if_neg nofun, leaving _ (.inl (by rw [station]; exact stays))]
      rfl
    have latches : Latches s (State.noteChanges u (State.closeStream n u)) (oneFlag (.change n)) :=
      latches_change (by rw [closes]; exact latch) (by rw [closes, streams]) moves
    refine ⟨_, accepted isOpen, ?_, latches_of_latch latches rfl⟩
    rw [closes, present_taken, ← taking]
    rfl
  · rw [request, takeCloseStream, streamArgs_byteOf]
    dsimp only
    rw [if_pos, ← taking, present_refuse (by decide)]
    · rfl
    · rw [streams, Bool.not_eq_true', ← Bool.not_eq_true, isOpen_iff]; exact shut

/-! ### The streams that STOP closes (R71, R157) -/

theorem shutStream_claims {s t : State} (ann : t.ann = s.ann) (n : StreamNo) : t.claimInFlight n = s.claimInFlight n := by
  rw [State.claimInFlight, ann]; rfl

/-- R80, R157: all that closing some streams does, each once. -/
theorem closeStreams_eq {ns : List StreamNo} (once : ns.Nodup) (s : State) : State.closeStreams ns s = { s with
    streams := Vector.ofFn fun n => if n ∈ ns then shutStream (s.claimInFlight n) s.streams[n] else s.streams[n]
    freeBuffers := s.freeBuffers + (ns.map fun n => s.streams[n].queue.length).sum } := by
  induction ns generalizing s with
  | nil => simp [State.closeStreams]
  | cons n ns ih =>
    obtain ⟨new, once⟩ := List.nodup_cons.mp once
    have first := beginClose_eq n s
    show State.closeStreams ns (State.beginClose n s) = _
    rw [ih once]
    have claims (m : StreamNo) : (State.beginClose n s).claimInFlight m = s.claimInFlight m :=
      shutStream_claims (by rw [first]) m
    have streams (m : StreamNo) : (State.beginClose n s).streams[m] =
        if m = n then shutStream (s.claimInFlight n) s.streams[n] else s.streams[m] := by rw [first]; exact vector_set_get _ _ _ _
    have lengths : (ns.map fun m => (State.beginClose n s).streams[m].queue.length) = ns.map fun m => s.streams[m].queue.length :=
      List.map_congr_left fun m mem => by rw [streams, if_neg fun here : m = n => new (here ▸ mem)]
    rw [lengths]
    simp only [claims, streams]
    rw [first]
    simp only [State.mk.injEq, true_and, and_true]
    refine ⟨Vector.ext fun m bound => ?_, by simp only [List.map_cons, List.sum_cons, Nat.add_assoc]⟩
    simp only [Vector.getElem_ofFn, List.mem_cons]
    by_cases here : (⟨m, bound⟩ : StreamNo) = n
    · subst here; simp [new]
    · simp [here]

theorem sum_map_filter_eq {α : Type} (p : α → Bool) (f : α → Nat) (l : List α) :
    ((l.filter p).map f).sum = (l.map fun a => if p a then f a else 0).sum := by
  rw [List.sum_map_ite]
  simp

/-- R157: stream n at the start of a leave. -/
def leavingStream (s : State) (n : StreamNo) : Stream :=
  if s.streams[n].isOpen then shutStream (s.claimInFlight n) s.streams[n] else s.streams[n]

/-- R68, R157: the stream has something to give up, so that it becomes RELEASING at the start of a leave. -/
def GivesUp (s : State) (n : StreamNo) : Prop := StreamIsOpen s.streams[n] ∧ (s.streams[n].slots ≠ 0 ∨ ClaimFlies s n)

theorem leavingStream_slots (s : State) (n : StreamNo) : (leavingStream s n).slots = s.streams[n].slots := by
  unfold leavingStream
  split
  · exact (closedStream_lists _ _).2.2.1
  · rfl

theorem leavingStream_releasing (s : State) (n : StreamNo) :
    (leavingStream s n).state = .releasing ↔ s.streams[n].state = .releasing ∨ GivesUp s n := by
  unfold leavingStream GivesUp
  by_cases isOpen : StreamIsOpen s.streams[n]
  · have other : s.streams[n].state ≠ .releasing := by rcases isOpen with h | h | h <;> rw [h] <;> nofun
    rw [if_pos ((isOpen_iff _).mpr isOpen)]
    by_cases gives : s.streams[n].slots ≠ 0 ∨ ClaimFlies s n
    · rw [shutStream_gives gives]; exact iff_of_true rfl (.inr ⟨isOpen, gives⟩)
    · rw [shutStream_keeps gives]; exact iff_of_false nofun fun h => h.elim other fun h => gives h.2
  · rw [if_neg (mt (isOpen_iff _).mp isOpen)]; exact (or_iff_left fun gives => isOpen gives.1).symm

/-- R71, R157: the start of a leave, up to its end where no stream is left. -/
theorem beginLeave_spec (s : State) : ∃ order : List StreamNo, order.Nodup ∧ (∀ n, n ∈ order ↔ GivesUp s n) ∧
    State.beginLeave s = State.leaveIfDone { s with
      station := { s.station with state := .leaving }, streams := Vector.ofFn (leavingStream s)
      freeBuffers := s.freeBuffers + s.sumStreams fun st => if st.isOpen then st.queue.length else 0
      ann := { s.ann with queue := s.ann.queue ++ order.map fun n => .release n s.streams[n].slots }
      choices := s.choices + 1 } := by
  have closing (n : StreamNo) : n ∈ (List.finRange 8).filter (fun n => s.streams[n].isOpen) ↔ s.streams[n].isOpen = true := by
    rw [List.mem_filter, and_iff_right (List.mem_finRange n)]
  have once : ((List.finRange 8).filter fun n => s.streams[n].isOpen).Nodup := (List.nodup_finRange 8).filter _
  have closed := closeStreams_eq once { s with station := { s.station with state := .leaving } }
  have total : (((List.finRange 8).filter fun n => s.streams[n].isOpen).map fun n => s.streams[n].queue.length).sum =
      s.sumStreams fun st => if st.isOpen then st.queue.length else 0 := sum_map_filter_eq _ _ _
  simp only [closing] at closed
  rw [total] at closed
  simp only [State.beginLeave]
  generalize (List.finRange 8).filter (fun n => s.streams[n].isOpen) = ns at closing once closed
  generalize State.closeStreams ns _ = u at closed
  have streams (n : StreamNo) : u.streams[n] = leavingStream s n := by
    rw [closed]; simp only [Fin.getElem_fin, Vector.getElem_ofFn]; rfl
  have perm := inRankOrder_perm (Config.stopRank s.choices) (ns.filter fun n => u.streams[n].state == .releasing)
  generalize inRankOrder (Config.stopRank s.choices) (ns.filter fun n => u.streams[n].state == .releasing) = order at perm
  refine ⟨order, perm.nodup_iff.mpr (once.filter _), fun n => ?_, ?_⟩
  · rw [perm.mem_iff, List.mem_filter, closing, isOpen_iff, streams, beq_iff_eq, leavingStream_releasing]
    refine ⟨fun ⟨isOpen, is⟩ => is.resolve_left ?_, fun gives => ⟨gives.1, .inr gives⟩⟩
    rcases isOpen with h | h | h <;> rw [h] <;> nofun
  · have records : order.map (fun n => State.releaseRecord n u) = order.map fun n => .release n s.streams[n].slots :=
      List.map_congr_left fun n _ => by rw [State.releaseRecord, streams, leavingStream_slots]
    rw [records, closed]
    rfl

/-- Settles O5: what gives something up becomes RELEASING with its record, so that the leave does not end at once. -/
theorem stopStartsLeave : Obligations.StopStartsLeave := by
  intro s takes active some
  have request : exec (.stop [0]) s = .next (present (takeStop [] (atTaking s 18 0 []))) :=
    congrArg _ (request_complete (row := { code := 18, needs := (· == 0), take := takeStop }) takes rfl rfl (by decide) rfl)
  have stop : takeStop [] (atTaking s 18 0 []) = taken (State.changing State.beginLeave (atTaking s 18 0 [])) := by
    simp only [takeStop, atTaking_station, active]
  obtain ⟨order, once, gives, leaves⟩ := beginLeave_spec (atTaking s 18 0 [])
  have gives : ∀ n, n ∈ order ↔ GivesUp s n := gives
  have stays (n : StreamNo) (h : s.streams[n].state = .releasing ∨ GivesUp s n) : (leavingStream s n).state ≠ .closed := by
    rw [(leavingStream_releasing s n).mpr h]; nofun
  rw [leaveIfDone_open] at leaves
  · rw [stop, present_taken, State.changing] at request
    generalize State.beginLeave (atTaking s 18 0 []) = v at leaves request
    have streams (n : StreamNo) : v.streams[n] = leavingStream s n := by
      rw [leaves]; simp only [Fin.getElem_fin, Vector.getElem_ofFn]; rfl
    have latches : Latches s (State.noteChanges (atTaking s 18 0 []) v) (changeFlags s v) :=
      latches_congr (latches_noteChanges (latches_none (by rw [leaves]; rfl))) fun f => by cases f <;> rfl
    refine ⟨_, order.map fun n => .release n s.streams[n].slots, request, ?_, fun n => ?_, ?_, ?_, fun r => ?_, ?_, ?_,
      ?_, ?_, ?_, ?_, ?_, ?_, latches_congr (latches_of_latch latches rfl) fun f => by cases f <;> rfl⟩
    · rw [leaves]; rfl
    · show (_ → v.streams[n] = _) ∧ (_ → _ → v.streams[n] = _) ∧ (_ → _ → v.streams[n] = _)
      rw [streams, leavingStream]
      refine ⟨fun shut => ?_, fun isOpen some => ?_, fun isOpen none => ?_⟩
      · rw [if_neg (mt (isOpen_iff _).mp shut)]
      · rw [if_pos ((isOpen_iff _).mpr isOpen), shutStream_gives some]; rfl
      · rw [if_pos ((isOpen_iff _).mpr isOpen), shutStream_keeps none]; rfl
    · rw [leaves]; rfl
    · exact List.Nodup.map (fun m n same => (Record.release.inj same).1) once
    · rw [List.mem_map]
      exact ⟨fun ⟨n, mem, is⟩ => ⟨n, is.symm, (gives n).mp mem⟩, fun ⟨n, is, some⟩ => ⟨n, (gives n).mpr some, is.symm⟩⟩
    all_goals rw [leaves]; rfl
  · rintro ⟨-, closed⟩
    obtain ⟨n, h⟩ := some
    refine stays n h (Eq.trans ?_ ((allClosed_iff _).mp closed n))
    simp only [Fin.getElem_fin, Vector.getElem_ofFn]; rfl

end Sys2Proof.Proofs
end

section
/-! SUPPORT. The waits that a boundary counts, and what it makes of the station and of the announcement queue. -/

namespace Sys2Proof.Proofs

open Sys2Proof Sys2Proof.Machine Sys2Proof.Safety

/-! ### The waits (R66, R73, R88) -/

/-- What station control takes of the streams at a boundary: their states, their lists and their frames. -/
theorem StationTakes.waits {s m t : State} {err : Bool} (reached : BoundaryReached s err m) (station : StationTakes m t)
    (n : StreamNo) : t.streams[n] = { boundaryStream s n with
      state := t.streams[n].state, held := t.streams[n].held, pending := t.streams[n].pending
      queue := t.streams[n].queue, inFlight := t.streams[n].inFlight } := by
  rw [← reached.streams]
  by_cases leaves : Leaves m t
  · rw [station.leaves_stream leaves, offline_eq]
  by_cases mutes : Mutes m t
  · rw [station.mutes_stream mutes, muted_eq]
  · rw [station.stays_stream leaves mutes]

/-- R73: when the stall counter of a stream counts. -/
theorem countsStall_iff (station : StationState) (st : Stream) : st.countsStall station = true ↔
    station = .active ∧ st.state = .claiming ∧ st.pending = 0 ∧ st.stall < 64 := by
  have limit : stallLimit = 64 := rfl
  simp only [Stream.countsStall, Bool.and_eq_true, beq_iff_eq, decide_eq_true_eq, and_assoc, limit]

/-- Settles O33: the counts are those of the boundary's middle, which station control leaves as they are. -/
theorem boundaryCountsWaits : Obligations.BoundaryCountsWaits := by
  intro s kind c takes
  obtain ⟨m, t, reached, station, -, ran⟩ := exec_boundary_reached takes
  refine ⟨t, ran, fun n => ?_⟩
  rw [station.waits reached n]
  have releasing := reportedStream_releasing (confirmedTo s n) (lapsedTo s n) s.streams[n]
  refine ⟨?_, rfl, rfl, ?_⟩
  · simp only [boundaryStream, releasing]; rfl
  · simp only [boundaryStream, countsStall_iff]; rfl

/-! ### Station control -/

theorem faultThreshold_iff (m : State) : faultThresholdCount ≤ faultyCount m.takeVerdict.station.window ↔ 8 ≤ nextFaulty m :=
  Iff.rfl

section Control
variable {m : State} {kind : BoundaryKind}

/-- R151. -/
theorem stationBoundary_listening (h : m.station.state = .listening) :
    (State.stationBoundary .heard .listening m).station = { m.station with
      faultMark := false, listenCount := m.station.listenCount + 1
      state := if 2 ≤ m.station.listenCount then .active else .listening } := by
  have third : joinCount ≤ m.station.listenCount + 1 ↔ 2 ≤ m.station.listenCount := by unfold joinCount; omega
  simp only [State.stationBoundary]
  split
  · next joins => rw [if_pos (third.mp joins)]; rfl
  · next waits => rw [if_neg (mt third.mpr waits), ← h]; rfl

/-- R154, R155. -/
theorem stationBoundary_active : (State.stationBoundary kind .active m).station =
    if 8 ≤ nextFaulty m then { m.station with state := .muted, window := nextWindow m, faultMark := false, muteRemaining := 32 }
    else { m.station with window := nextWindow m, faultMark := false } := by
  simp only [State.stationBoundary, faultThreshold_iff]
  split
  · rw [enterMuted_station]; rfl
  · rfl

/-- R158, R160. -/
theorem stationBoundary_leaving (h : m.station.state = .leaving) : (State.stationBoundary kind .leaving m).station =
    if 8 ≤ nextFaulty m ∨ m.allClosed = true then { m.station with
      state := .offline, window := nextWindow m, faultMark := false, muteRemaining := 0, listenCount := 0 }
    else { m.station with window := nextWindow m, faultMark := false } := by
  simp only [State.stationBoundary, faultThreshold_iff]
  by_cases faulty : 8 ≤ nextFaulty m
  · rw [if_pos faulty, if_pos (.inl faulty), silentReleaseAll_eq]; rfl
  · rw [if_neg faulty]
    by_cases closed : m.allClosed = true
    · rw [if_pos (.inr closed), leaveIfDone_done (s := m.takeVerdict) ⟨h, closed⟩]; rfl
    · rw [if_neg (not_or_intro faulty closed), leaveIfDone_open (s := m.takeVerdict) fun done => closed done.2]; rfl

/-- R156. -/
theorem stationBoundary_muted : (State.stationBoundary kind .muted m).station =
    if m.station.muteRemaining ≤ 1 then { m.station with
      state := .listening, window := List.replicate 16 false, faultMark := false, listenCount := 0, muteRemaining := 0
      startedTrunk := false }
    else { m.station with faultMark := false, muteRemaining := m.station.muteRemaining - 1 } := by
  have last : m.station.muteRemaining - 1 = 0 ↔ m.station.muteRemaining ≤ 1 := by omega
  simp only [State.stationBoundary]
  split
  · next ends =>
    have ends : m.station.muteRemaining - 1 = 0 := ends
    rw [if_pos (last.mp ends)]
    simp only [State.rejoin, State.clearFaultMark, ends, cleanWindow]
  · next goesOn => rw [if_neg (mt last.mpr goesOn)]; rfl

/-- R51, R155, R160: the queue of a station that leaves or is muted is empty; otherwise station control leaves it, and always
the setup record, the port and the pins. -/
theorem stationBoundary_outside (m : State) (kind : BoundaryKind) :
    let t := State.stationBoundary kind m.station.state m
    t.ann = (if Leaves m t ∨ Mutes m t then .reset else m.ann) ∧ t.setup = m.setup ∧ t.port = m.port ∧ t.pins = m.pins := by
  have cases := stationBoundary_cases kind m
  dsimp only at cases ⊢
  generalize State.stationBoundary kind m.station.state m = t at cases
  rcases cases with ⟨leaves, p, whole⟩ | ⟨mutes, whole⟩ | ⟨leaves, mutes, -, station, timer, latch, whole⟩
  · rw [if_pos (.inl leaves), whole]
    exact ⟨rfl, rfl, rfl, rfl⟩
  · rw [if_pos (.inr mutes), whole]
    simp [State.enterMuted, State.takeVerdict]
  · rw [if_neg (not_or_intro leaves mutes), whole]
    exact ⟨rfl, rfl, rfl, rfl⟩

end Control

/-- R69, R88: a stream is CLOSED after the boundary's middle if it was or if it has reached the close limit. -/
theorem boundaryStream_shut (s : State) (n : StreamNo) :
    (boundaryStream s n).state = .closed ↔ s.streams[n].state = .closed ∨ ReachesCloseLimit s n := by
  by_cases reaches : ReachesCloseLimit s n
  · exact iff_of_true (boundaryStream_closed reaches).1 (.inr reaches)
  rw [(boundaryStream_lists reaches).2.2, or_iff_left reaches]
  split
  · next opens =>
    have other : s.streams[n].state ≠ .closed := by rcases opens.1 with h | h | h <;> rw [h] <;> nofun
    refine iff_of_false ?_ other
    unfold derivedState
    split_ifs <;> nofun
  · exact Iff.rfl

/-- The port and the pins have no part in a boundary's middle. -/
theorem beforeStation_outside (s : State) (kind : BoundaryKind) (c : Instr) :
    (beforeStation kind (boundaryState s c)).port = s.port ∧ (beforeStation kind (boundaryState s c)).pins = s.pins := by
  obtain ⟨timer, line, opened⟩ := openCycle_boundaryState s kind c
  simp [beforeStation, State.countWaits, releaseOverdue_eq, releasedSilently, State.countCloses, ageMap_eq, opened]

/-- Settles O34: station control by its state, with what the boundary's middle has left of the streams and the queue. -/
theorem boundaryMovesStation : Obligations.BoundaryMovesStation := by
  intro s kind c takes
  have reached := beforeStation_reached s kind c
  obtain ⟨port, pins⟩ := beforeStation_outside s kind c
  have ran : exec c s = .next (State.noteChanges (boundaryState s c) (State.stationBoundary kind
      (beforeStation kind (boundaryState s c)).station.state (beforeStation kind (boundaryState s c)))) := by
    rw [exec_boundary takes, boundary_eq, beforeStation_state, state_of_view (boundaryState_view s c), State.changing]
  generalize beforeStation kind (boundaryState s c) = m at reached ran port pins
  obtain ⟨ann, setup, port', pins'⟩ := stationBoundary_outside m kind
  refine ⟨_, ran, ?_, ?_, setup.trans reached.setup, port'.trans port, pins'.trans pins⟩
  · have faulty : nextFaulty m = nextFaulty s := by rw [nextFaulty, nextWindow, reached.station]; rfl
    have window : nextWindow m = nextWindow s := by rw [nextWindow, reached.station]; rfl
    have closed : m.allClosed = true ↔ ∀ n : StreamNo, s.streams[n].state = .closed ∨ ReachesCloseLimit s n := by
      simp only [allClosed_iff, reached.streams, boundaryStream_shut]
    show (State.stationBoundary kind m.station.state m).station = _
    rw [reached.station]
    cases state : s.station.state with
    | initialising | offline => exact reached.station
    | listening =>
      cases kind with
      | heard => rw [stationBoundary_listening (by rw [reached.station, state]), reached.station]
      | synthesized => exact nomatch state.symm.trans takes.1.2.2.2
    | active => rw [stationBoundary_active, faulty, window, reached.station]
    | leaving =>
      rw [stationBoundary_leaving (by rw [reached.station, state]), reached.station]
      simp only [faulty, window, closed]
    | muted => rw [stationBoundary_muted, reached.station]
  · have left : m.ann = { s.ann with queue := s.ann.queue.filter fun r => match releaseOf r with
        | some (n, _) => !decide (ReachesCloseLimit s n)
        | none => true } := by
      show AnnouncementUnit.mk m.ann.queue m.ann.offer = _
      rw [reached.queue, reached.offer]
      refine congrArg (fun keep => AnnouncementUnit.mk (s.ann.queue.filter keep) s.ann.offer) (funext fun r => ?_)
      cases releaseOf r <;> rfl
    have leaves (t : State) : Leaves m t ↔ Leaves s t := by rw [Leaves, Leaves, reached.station]
    have mutes (t : State) : Mutes m t ↔ Mutes s t := by rw [Mutes, Mutes, reached.station]
    exact ann.trans (if_congr (or_congr (leaves _) (mutes _)) rfl left)

end Sys2Proof.Proofs
end

section
/-! SUPPORT. A SETTLING attempt ends before the event that settles it goes on (R133). -/

namespace Sys2Proof.Proofs

open Sys2Proof Sys2Proof.Machine Sys2Proof.Safety

/-! ### The provisional outcome -/

/-- R136: the lost note of an attempt that ends LOST. -/
theorem attemptLost_note (a : Attempt) (s : State) :
    (State.attemptLost a s).line.lostNote = if isSlotFrame a = true then true else s.line.lostNote := by
  cases a with
  | slotFrame k f =>
    simp only [State.attemptLost, State.frameReturns]
    cases f.body with
    | keep => rfl
    | data payload => simp only [requeue_eq]; rfl
  | announcement w c => cases kind : c.kind <;> simp only [State.attemptLost, kind] <;> rfl
  | brk | mark => rfl

/-- R62, R63, R95, R133, R136, R153: all that settling does. -/
theorem settle_settling {s : State} {a : Attempt} {p : Provisional} (settling : s.line.transmit = .settling a p) :
    AttemptFails (some p) a s s.settle ∧ s.settle = { s with
      station := s.settle.station, ann := s.settle.ann, streams := s.settle.streams, freeBuffers := s.settle.freeBuffers
      line := { s.line with
        transmit := .idle, txd := .recessive
        lostNote := if p = .lost ∧ isSlotFrame a = true then true else s.line.lostNote } } := by
  cases p with
  | lost =>
    have ends : s.settle = State.attemptLost a s := by rw [State.settle, settling]
    obtain ⟨fails, whole⟩ := attemptLost_ends a s
    have note := attemptLost_note a s
    rw [ends]
    generalize State.attemptLost a s = t at fails whole note
    refine ⟨fails, ?_⟩
    simp only [true_and, ← note]
    exact whole
  | fault =>
    have ends : s.settle = State.attemptFault a s := by rw [State.settle, settling]
    obtain ⟨fails, whole⟩ := attemptFault_spec a s
    rw [ends]
    generalize State.attemptFault a s = t at fails whole
    refine ⟨fails, ?_⟩
    rw [if_neg (fun h => nomatch h.1)]
    exact whole

/-- The end of an attempt does not depend on the dominant run, and leaves it. -/
theorem attemptReturns_atRun (a : Attempt) (run : Nat) (s : State) :
    State.attemptReturns a (State.atRun run s) = State.atRun run (State.attemptReturns a s) := by
  cases a with
  | slotFrame k f =>
    simp only [State.attemptReturns, State.frameReturns]
    cases f.body with
    | keep => rfl
    | data payload => simp only [requeue_eq]; rfl
  | _ => rfl

theorem attemptLost_atRun (a : Attempt) (run : Nat) (s : State) :
    State.attemptLost a (State.atRun run s) = State.atRun run (State.attemptLost a s) := by
  cases a with
  | slotFrame k f =>
    simp only [State.attemptLost, State.frameReturns]
    cases f.body with
    | keep => rfl
    | data payload => simp only [requeue_eq]; rfl
  | announcement w c => cases kind : c.kind <;> simp only [State.attemptLost, kind] <;> rfl
  | brk | mark => rfl

theorem markFault_atRun (run : Nat) (s : State) : State.markFault (State.atRun run s) = State.atRun run (State.markFault s) := by
  have drives : (State.atRun run s).mayDrive = s.mayDrive := rfl
  simp only [State.markFault, drives, apply_ite (State.atRun run)]
  rfl

theorem settle_atRun (run : Nat) (s : State) : State.settle (State.atRun run s) = State.atRun run s.settle := by
  have same : (State.atRun run s).line.transmit = s.line.transmit := rfl
  rw [State.settle, State.settle, same]
  split
  · exact attemptLost_atRun _ run s
  · rw [State.attemptFault, State.attemptFault, attemptReturns_atRun, markFault_atRun]
  · rfl

/-! ### The event that goes on -/

section Settled
variable {s u : State} {a : Attempt} {p : Provisional} (settling : s.line.transmit = .settling a p) (settled : s.settle = u)
include settling settled

theorem settled_frame : u.line.transmit = .idle ∧ u.timer = s.timer ∧ u.line.receiver = s.line.receiver ∧
    u.line.segment = s.line.segment := by
  obtain ⟨-, whole⟩ := settle_settling settling
  rw [settled] at whole
  rw [whole]
  exact ⟨rfl, rfl, rfl, rfl⟩

theorem settled_again : u.settle = u := settle_of_idle (settled_frame settling settled).1

theorem settled_reports (position : Nat) : u.reportsStart position = s.reportsStart position := by
  rw [State.reportsStart, (settled_frame settling settled).2.1]; rfl

/-- R98: the end of an attempt changes no stream's state and no list. -/
theorem settled_visible (n : StreamNo) : u.streams[n].visible = s.streams[n].visible := by
  obtain ⟨fails, -⟩ := settle_settling settling
  rw [← settled, fails.streams]
  split
  · unfold returnedStream
    split
    · rfl
    · split <;> rfl
  · split
    · unfold lostClaimStream; split_ifs <;> rfl
    · rfl

theorem settled_changing (f : State → State) : State.changing f u = State.noteChanges s (f u) := by
  have visible := settled_visible settling settled
  simp only [State.changing, State.noteChanges, visible]

/-- R2, R133: a segment starts after the attempt has ended. -/
theorem settled_startSegment (g : Segment) (position : Nat) (rx : Option Stretch) :
    State.startSegment g position rx u = State.startSegment g position rx s := by
  simp only [State.startSegment, settled, settled_again settling settled]

/-- R133, R143: a frame is delivered after the attempt has ended. -/
theorem settled_receiveWhole (receiver : s.line.receiver = true) (legal : Bool) (offset : Nat) (deliver : State → State) :
    State.receiveWhole true offset legal deliver u = State.receiveWhole true offset legal deliver s := by
  obtain ⟨idle, -, same, -⟩ := settled_frame settling settled
  have takes : u.outcomeTaken = true := by rw [State.outcomeTaken, idle]
  have took : s.outcomeTaken = true := by rw [State.outcomeTaken, settling]
  have outcome : State.settle (State.atRun 0 u) = State.settle (State.atRun 0 s) := by
    rw [settle_atRun, settle_atRun, settled, settled_again settling settled]
  simp only [State.receiveWhole, same, receiver, takes, took, outcome, Bool.and_self, if_true]

theorem settled_slotFrame (receiver : s.line.receiver = true) {k : Slot} (slot : s.line.segment = .slot k) (offset : Nat)
    (f : SlotFrame) : State.slotFrameReceived offset f u = State.slotFrameReceived offset f s := by
  have here : s.inSlot = some k := by rw [State.inSlot, slot]
  have there : u.inSlot = some k := by rw [State.inSlot, (settled_frame settling settled).2.2.2, slot]
  simp only [State.slotFrameReceived, here, there, settled_changing settling settled,
    settled_receiveWhole settling settled receiver]
  rfl

theorem settled_announcement (receiver : s.line.receiver = true) {w : WindowNo} (window : s.line.segment = .window w)
    (offset : Nat) (a : Announcement) (apply : State → State) :
    State.announcementReceived offset a apply u = State.announcementReceived offset a apply s := by
  have here : s.inWindow = true := by rw [State.inWindow, window]
  have there : u.inWindow = true := by rw [State.inWindow, (settled_frame settling settled).2.2.2, window]
  rw [State.announcementReceived, settled_changing settling settled, there,
    settled_receiveWhole settling settled receiver, State.announcementReceived, State.changing, here]

theorem settled_slotStart (k : Slot) (rx : Option Stretch) (reported : StartReported s (slotStartAt k)) :
    State.slotStart k rx u = State.slotStart k rx s := by
  have starts := (reportsStart_iff _ _).mpr reported
  rw [State.slotStart, State.slotStart, settled_reports settling settled, if_pos starts, if_pos starts,
    settled_startSegment settling settled]

theorem settled_windowStart (w : WindowNo) (rx : Option Stretch) (reported : StartReported s (windowStartAt w)) :
    State.windowStart w rx u = State.windowStart w rx s := by
  have starts := (reportsStart_iff _ _).mpr reported
  rw [State.windowStart, State.windowStart, settled_reports settling settled, if_pos starts, if_pos starts,
    settled_changing settling settled, settled_startSegment settling settled]
  rfl

theorem settled_gapStart (rx : Option Stretch) (reported : StartReported s gapStartAt) :
    State.gapStart rx u = State.gapStart rx s := by
  have starts := (reportsStart_iff _ _).mpr reported
  rw [State.gapStart, State.gapStart, settled_reports settling settled, if_pos starts, if_pos starts,
    settled_startSegment settling settled]

/-- R129, R133: a run ends after the attempt has ended. -/
theorem settled_shortRunEnd (receiver : s.line.receiver = true) (calm : s.timer.breakInProgress = false) {run : Nat}
    (some : 1 ≤ run) (short : run < 12) (stopBit : Bool) : State.shortRunEnd run stopBit u = State.shortRunEnd run stopBit s := by
  obtain ⟨-, timer, same, -⟩ := settled_frame settling settled
  simp only [State.shortRunEnd, timer, same, receiver, calm, some, short, settled, settled_again settling settled,
    decide_true, Bool.not_false, Bool.and_self, if_true]

end Settled

/-- R7, R133: a mark character is delivered after the attempt has ended. -/
theorem settled_markReceived {s u : State} {a : Attempt} {p : Provisional} (settling : s.line.transmit = .settling a p)
    (settled : s.settle = u) (receiver : s.line.receiver = true) (tail : s.line.segment = .markTail) (offset sender : Nat) :
    State.markReceived offset sender u = State.markReceived offset sender s := by
  have segment : u.line.segment = .markTail := (settled_frame settling settled).2.2.2.trans tail
  rw [State.markReceived, State.markReceived, segment, tail]
  exact settled_receiveWhole settling settled receiver _ offset _

/-- R132, R133, R153: the report of a FAULT, at the end of the run. -/
theorem transmitFault_settling {s : State} {a : Attempt} (settling : s.line.transmit = .settling a .fault) (bit : Nat) :
    State.transmitFault bit s = State.atRun 0 s.settle ∧
      State.transmitFault bit (State.atRun 0 s.settle) = State.atRun 0 s.settle := by
  have idle : (State.atRun 0 s.settle).line.transmit = .idle := (settled_frame settling rfl).1
  rw [State.transmitFault, settling, State.transmitFault, idle]
  exact ⟨settle_atRun 0 s, rfl⟩

/-- Settles O39: TRANSMIT_FAULT gives the outcome on a recessive line and is then nothing; each of the other events gives it
first. -/
theorem settlingAttemptEnds : Obligations.SettlingAttemptEnds := by
  intro s a p c settling _ event
  obtain ⟨fails, whole⟩ := settle_settling settling
  by_cases reports : ∃ bit, c = .transmitFault bit
  · obtain ⟨bit, rfl⟩ := reports
    have fault : p = .fault := by simpa using event
    subst fault
    obtain ⟨ran, again⟩ := transmitFault_settling settling bit
    obtain ⟨line, station, ann, streams, buffers⟩ := fails
    refine ⟨State.atRun 0 s.settle, ⟨line, station, ann, streams, buffers⟩, ?_, congrArg Host.Outcome.next (ran.trans again.symm)⟩
    rw [whole]
    rfl
  generalize settled : s.settle = u at fails whole
  refine ⟨u, fails, whole.trans ?_, ?_⟩
  · cases c with
    | transmitFault bit => exact absurd ⟨bit, rfl⟩ reports
    | _ => rfl
  rcases event with ⟨run, stopBit, rfl, receiver, calm, some, short⟩ | ⟨k, rx, rfl, reported⟩ | ⟨w, rx, rfl, reported⟩ |
    ⟨rx, rfl, reported⟩ | ⟨bit, rfl, -⟩ | ⟨receiver, ⟨offset, sender, rfl, tail⟩ | ⟨offset, f, k, rfl, slot⟩ |
      ⟨w, offset, sender, n, window, ⟨set, rfl | rfl⟩ | ⟨k, aux, rfl⟩⟩⟩
  · exact congrArg Host.Outcome.next (settled_shortRunEnd settling settled receiver calm some short stopBit).symm
  · exact congrArg Host.Outcome.next (settled_slotStart settling settled k rx reported).symm
  · exact congrArg Host.Outcome.next (settled_windowStart settling settled w rx reported).symm
  · exact congrArg Host.Outcome.next (settled_gapStart settling settled rx reported).symm
  · exact absurd ⟨bit, rfl⟩ reports
  · exact congrArg Host.Outcome.next (settled_markReceived settling settled receiver tail offset sender).symm
  · exact congrArg Host.Outcome.next (settled_slotFrame settling settled receiver slot offset f).symm
  all_goals exact congrArg Host.Outcome.next (settled_announcement settling settled receiver window offset _ _).symm

end Sys2Proof.Proofs
end

section
/-! SUPPORT. What a window start makes of the announcement queue and the streams before an announcement is chosen, and the
offer of a record (R52 to R54). -/

namespace Sys2Proof.Proofs

open Sys2Proof Sys2Proof.Machine Sys2Proof.Safety

/-! ### The records that are left (R53, R54) -/

theorem has_trim_eq (m : SlotMap) (own : Nat) (n : StreamNo) (set : SlotSet) (k : Slot) :
    SlotSet.has (m.trim own n set) k = (SlotSet.has set k && m[k].state.ownStream own == some n) := SlotSet.has_ofPred _ k

/-- R53, R54: the check leaves the live part of each record. -/
theorem checkedQueue_eq (s : State) : checkedQueue s = s.ann.queue.filterMap (livePart s) := by
  refine List.filterMap_congr fun r _ => ?_
  cases r <;> rfl

/-- R54: the streams whose record has nothing left. -/
theorem emptiedStream_iff_emptied (s : State) (n : StreamNo) : emptiedStream s n = true ↔ Emptied s n := by
  rw [emptiedStream_iff]
  refine exists_congr fun set => and_congr_right fun _ => ⟨fun none k => ?_, fun part => SlotSet.ext fun k => ?_⟩
  · rw [← none]; exact has_trim_eq s.map s.own n set k
  · rw [part k]; exact has_trim_eq s.map s.own n set k

/-! ### The window start up to the choice -/

/-- The state in which the announcement unit is asked at the start of window w. -/
def atWindowStart (w : WindowNo) (rx : Option Stretch) (s : State) : State :=
  State.clearLostNote (State.startSegment (.window w) (windowStartAt w) rx s)

theorem windowStart_eq {w : WindowNo} {s : State} (reported : StartReported s (windowStartAt w)) (rx : Option Stretch) :
    exec (.windowStart w rx) s = .next (State.noteChanges s (State.offer w (atWindowStart w rx s))) := by
  show Host.Outcome.next (State.windowStart w rx s) = _
  rw [State.windowStart, if_pos ((reportsStart_iff _ _).mpr reported)]
  rfl

/-- R2, R136, R137: the window has opened, and nothing else has happened. -/
structure WindowOpened (w : WindowNo) (rx : Option Stretch) (s u : State) : Prop where
  opens    : SegmentOpens (.window w) (windowStartAt w) rx s u
  whole    : u = { s with timer := u.timer, line := u.line, latch := u.latch }
  latch    : u.latch = errorLatch (cutShort s rx) s.latch
  transmit : u.line.transmit = s.line.transmit
  txd      : u.line.txd = s.line.txd
  note     : u.line.lostNote = false

theorem atWindowStart_opened {s : State} (unsettled : ∀ a p, s.line.transmit ≠ .settling a p) (w : WindowNo)
    (rx : Option Stretch) : WindowOpened w rx s (atWindowStart w rx s) := by
  obtain ⟨opens, whole, transmit, txd, -⟩ := startSegment_spec (settle_eq_self unsettled) (.window w) (windowStartAt w) rx
  generalize begun : State.startSegment (.window w) (windowStartAt w) rx s = v at opens whole transmit txd
  rw [atWindowStart, begun]
  refine ⟨segmentOpens_of_attempt opens rfl rfl, ?_, congrArg State.latch whole, transmit, txd, rfl⟩
  rw [State.clearLostNote, whole]

/-- R53, R54, R68, R77, R87: the window has opened, and the records are checked. -/
structure WindowChecked (w : WindowNo) (rx : Option Stretch) (s v : State) : Prop where
  opens  : SegmentOpens (.window w) (windowStartAt w) rx s v
  whole  : v = { s with
    timer := v.timer, line := v.line, latch := v.latch, streams := v.streams
    ann := { s.ann with queue := s.ann.queue.filterMap (livePart s) } }
  closes : ClosesEmptied s v
  latch  : v.latch = errorLatch (cutShort s rx) s.latch
  idle   : v.line.transmit = .idle
  note   : v.line.lostNote = false

theorem WindowOpened.check {w : WindowNo} {rx : Option Stretch} {s u : State} (opened : WindowOpened w rx s u)
    (idle : s.line.transmit = .idle) : WindowChecked w rx s u.checkRecords := by
  obtain ⟨opens, whole, latch, transmit, -, note⟩ := opened
  have queue : checkedQueue u = s.ann.queue.filterMap (livePart s) := by
    rw [← checkedQueue_eq, whole]; rfl
  have emptied (n : StreamNo) : emptiedStream u n = true ↔ Emptied s n := by
    rw [← emptiedStream_iff_emptied, whole]; rfl
  have streams (n : StreamNo) : u.checkRecords.streams[n] = if emptiedStream u n = true then s.streams[n].close else s.streams[n] := by
    rw [checkRecords_eq, State.updateStreams_get, show (State.setQueue (checkedQueue u) u).streams = s.streams by rw [whole]; rfl]
  refine ⟨segmentOpens_of_attempt opens rfl rfl, ?_, fun n => ⟨fun h => ?_, fun h => ?_⟩, latch, transmit.trans idle, note⟩
  · rw [checkRecords_eq, queue, whole]
    rfl
  · rw [streams, if_pos ((emptied n).mpr h)]; rfl
  · rw [streams, if_neg (mt (emptied n).mp h)]

/-- R52: where the announcement unit may offer, the choice is made of the records that are left. -/
theorem windowStart_asks {w : WindowNo} {s : State} (asks : WindowAsks s w) (rx : Option Stretch) :
    WindowOpened w rx s (atWindowStart w rx s) ∧ WindowChecked w rx s (atWindowStart w rx s).checkRecords ∧
      exec (.windowStart w rx) s =
        .next (State.noteChanges s (State.offerFirst w (atWindowStart w rx s).checkRecords)) := by
  obtain ⟨reported, idle, drives⟩ := asks
  have opened := atWindowStart_opened (fun a p => by rw [idle]; nofun) w rx
  refine ⟨opened, opened.check idle, ?_⟩
  have free : (atWindowStart w rx s).mayDrive = true := by rw [opened.whole]; exact drives
  rw [windowStart_eq reported, State.offer, if_pos]
  rw [free, opened.transmit, idle]; rfl

/-- R52, R57: no more than an offer has been made of the checked state. -/
def Offered (v x : State) : Prop := x = { v with
  line := { v.line with transmit := x.line.transmit, txd := x.line.txd }, ann := { v.ann with offer := x.ann.offer } }

theorem offerIn_offered (w : WindowNo) (a : Announcement) (v : State) : Offered v (State.offerIn w a v) := rfl

/-- R98: the state after a window start at which no more than an offer has been made. -/
theorem WindowChecked.offered {w : WindowNo} {rx : Option Stretch} {s v x : State} (checked : WindowChecked w rx s v)
    (offered : Offered v x) : SegmentOpens (.window w) (windowStartAt w) rx s (State.noteChanges s x) ∧
      State.noteChanges s x = { s with
        timer := x.timer, line := x.line, latch := (State.noteChanges s x).latch, streams := x.streams
        ann := { queue := s.ann.queue.filterMap (livePart s), offer := x.ann.offer } } ∧
      ClosesEmptied s (State.noteChanges s x) ∧ (State.noteChanges s x).line.lostNote = false ∧
      Latches s (State.noteChanges s x)
        (fun f => errorFlag (cutShort s rx) f || changeFlags s (State.noteChanges s x) f) := by
  obtain ⟨opens, whole, closes, latch, -, note⟩ := checked
  have timer : x.timer = v.timer := by rw [offered]
  have streams : x.streams = v.streams := by rw [offered]
  have line : x.line = { v.line with transmit := x.line.transmit, txd := x.line.txd } := congrArg State.line offered
  have lost : x.line.lostNote = v.line.lostNote := by rw [line]
  have latches : Latches s x (errorFlag (cutShort s rx)) := latches_error (by rw [offered]; exact latch)
  refine ⟨segmentOpens_of_attempt opens timer ?_, ?_, ?_, lost.trans note, ?_⟩
  · show x.line = { v.line with transmit := x.line.transmit, txd := x.line.txd, lostNote := x.line.lostNote }
    rw [lost]; exact line
  · rw [noteChanges_eq]
    rw [offered, whole]
  · show ∀ n : StreamNo, (_ → x.streams[n] = _) ∧ (_ → x.streams[n] = _)
    rw [streams]; exact closes
  · rw [changeFlags_noteChanges]; exact latches_noteChanges latches

/-- R53: the OBJECT of an own slot. -/
theorem objectFor_own {own : Nat} (k : Slot) {n : StreamNo} (e : EntryState) : e.ownStream own = some n →
    objectFor own k e =
      { kind := .object, sender := own, stream := n, slots := SlotSet.only k,
        aux := match e with | .pending _ _ c _ => c | _ => 0 } := by
  intro owns
  cases e with
  | free | quarantine => cases owns
  | pending o m c d | held o m c d =>
    obtain ⟨-, rfl⟩ : (o = own ∧ d = false) ∧ m = n := by simpa [EntryState.ownStream] using owns
    rfl

/-- R52: the oldest record of a kind. -/
theorem findSome_first {α β : Type} {f : α → Option β} {before after : List α} {x : α} {y : β} (is : f x = some y)
    (none : ∀ z ∈ before, f z = none) : (before ++ x :: after).findSome? f = some y := by
  rw [List.findSome?_append, List.findSome?_eq_none_iff.mpr none, List.findSome?_cons, is]
  rfl

/-- Settles O42: the records are checked, and the first OBJECT, or else the first RELEASE, is offered. -/
theorem windowOffersRecord : Obligations.WindowOffersRecord := by
  intro s w rx asks
  obtain ⟨-, checked, ran⟩ := windowStart_asks asks rx
  generalize (atWindowStart w rx s).checkRecords = v at checked ran
  have queue : v.ann.queue = s.ann.queue.filterMap (livePart s) := by rw [checked.whole]
  have map : v.map = s.map := by rw [checked.whole]
  have own : v.own = s.setup.address := by rw [checked.whole]; rfl
  intro live offers
  have makes (a : Announcement) (first : State.offerFirst w v = State.offerIn w a v) : offers a := by
    obtain ⟨opens, whole, closes, note, latches⟩ := checked.offered (offerIn_offered w a v)
    rw [first] at ran
    exact ⟨_, ran, opens, whole, closes, ⟨rfl, rfl, rfl⟩, note, latches⟩
  refine ⟨fun before k after n split fresh owns => makes _ ?_, fun before n part after split silent fresh => makes _ ?_⟩
  · have found : v.ann.queue.findSome? Record.objectSlot = some k := by
      rw [queue]
      refine (congrArg _ split).trans (findSome_first rfl fun r mem => ?_)
      cases r with
      | object j => exact absurd mem (fresh j)
      | release m set => rfl
    rw [State.offerFirst, found]
    dsimp only
    rw [own, map]
    exact congrArg (fun a => State.offerIn w a v) (objectFor_own k _ owns)
  · have none : v.ann.queue.findSome? Record.objectSlot = none := by
      rw [queue]
      refine List.findSome?_eq_none_iff.mpr fun r mem => ?_
      cases r with
      | object j => exact absurd mem (silent j)
      | release m set => rfl
    have found : v.ann.queue.findSome? Record.releaseSet = some (n, part) := by
      rw [queue]
      refine (congrArg _ split).trans (findSome_first rfl fun r mem => ?_)
      cases r with
      | object j => rfl
      | release m set => exact absurd mem (fresh m set)
    rw [State.offerFirst, none, found]
    dsimp only
    rw [own]

end Sys2Proof.Proofs
end
section
/-! SUPPORT. The CLAIM of a window start (R55, R56), and the leave that it completes (R158). -/

namespace Sys2Proof.Proofs

open Sys2Proof Sys2Proof.Machine Sys2Proof.Safety

/-! ### The set of a claim (R56) -/

theorem card_slotsOf {ks : List Slot} (nodup : ks.Nodup) : SlotSet.card (slotsOf ks) = ks.length := by
  refine le_antisymm (card_slotsOf_le ks) ?_
  rw [card_eq_countP, List.countP_eq_length_filter]
  refine (List.subperm_of_subset nodup fun k mem => List.mem_filter.mpr ⟨List.mem_finRange k, ?_⟩).length_le
  rw [slotsOf, SlotSet.has_ofPred]
  exact List.contains_iff_mem.mpr mem

theorem mem_take_of_lt {l : List Slot} (sorted : l.Pairwise (· < ·)) {m : Nat} {j k : Slot} (below : j < k)
    (taken : k ∈ l.take m) (mem : j ∈ l) : j ∈ l.take m := by
  rw [← List.take_append_drop m l] at sorted mem
  refine (List.mem_append.mp mem).resolve_right fun dropped => ?_
  exact absurd ((List.pairwise_append.mp sorted).2.2 k taken j dropped) (not_lt_of_gt below)

theorem mem_freeSlots (m : SlotMap) (k : Slot) : k ∈ m.freeSlots ↔ m[k].state = .free := by
  rw [SlotMap.freeSlots, List.mem_filter, isFree_iff]
  exact and_iff_right (List.mem_finRange k)

theorem freeSlots_ascend (m : SlotMap) : m.freeSlots.Pairwise (· < ·) := (List.pairwise_lt_finRange 32).filter _

theorem length_freeSlots (m : SlotMap) : m.freeSlots.length = allSlots.countP fun k => m[k].state == .free := by
  rw [SlotMap.freeSlots, ← List.countP_eq_length_filter]
  refine List.countP_congr fun k _ => ?_
  rw [isFree_iff, beq_iff_eq]

/-- R56: the claim names the lowest FREE slots. -/
theorem claimSet_isClaimSet (s : State) (n : StreamNo) : IsClaimSet s n (s.claimSet n) := by
  have sorted := freeSlots_ascend s.map
  have has (k : Slot) : SlotSet.has (s.claimSet n) k = true ↔
      k ∈ s.map.freeSlots.take (min s.streams[n].need (ownSlotLimit - s.ownTotal)) := by
    rw [State.claimSet, slotsOf, SlotSet.has_ofPred]
    exact List.contains_iff_mem
  refine ⟨fun k mem => ?_, fun j k below mem free => ?_, ?_⟩
  · exact (mem_freeSlots _ k).mp (List.mem_of_mem_take ((has k).mp mem))
  · exact (has j).mpr (mem_take_of_lt sorted below ((has k).mp mem) ((mem_freeSlots _ j).mpr free))
  · have nodup : s.map.freeSlots.Nodup := sorted.imp fun below => ne_of_lt below
    rw [State.claimSet, card_slotsOf (nodup.sublist (List.take_sublist _ _)), List.length_take, length_freeSlots]
    rfl

/-! ### The stream that claims (R55) -/

theorem eligible_iff (s : State) (n : StreamNo) : s.eligible n = true ↔ Eligible s n := by
  have some_free : (!s.map.freeSlots.isEmpty) = true ↔ ∃ k : Slot, s.map[k].state = .free := by
    rw [Bool.not_eq_true', List.isEmpty_eq_false_iff_exists_mem]
    exact exists_congr fun k => mem_freeSlots s.map k
  simp only [State.eligible, Bool.and_eq_true, Bool.or_eq_true, beq_iff_eq, decide_eq_true_eq, some_free, Eligible,
    and_assoc]
  refine and_congr_right fun _ => and_congr_right fun _ => and_congr ?_ Iff.rfl
  exact Nat.sub_pos_iff_lt

theorem claimant_lowest {s : State} {n : StreamNo} (eligible : Eligible s n) (lowest : ∀ m : StreamNo, m < n → ¬ Eligible s m) :
    s.claimant = some n := by
  rw [State.claimant, List.find?_eq_some_iff_getElem]
  refine ⟨(eligible_iff s n).mpr eligible, n, by simp, by simp, fun j below => ?_⟩
  rw [Bool.not_eq_true', Bool.eq_false_iff, ne_eq, eligible_iff]
  exact lowest _ (by simpa [Fin.lt_def] using below)

theorem claimant_none {s : State} (none : ∀ n : StreamNo, ¬ Eligible s n) : s.claimant = .none :=
  List.find?_eq_none.mpr fun n _ => mt (eligible_iff s n).mp (none n)

/-! ### A queue with nothing left -/

/-- R54, R87: each RELEASE record is of a stream that is RELEASING, and has no slots left. -/
def Hollow (s : State) : Prop := ∀ n set, Record.release n set ∈ s.ann.queue →
  IsPart s n set 0 ∧ s.streams[n].state = .releasing ∧ s.streams[n].held = 0 ∧ s.streams[n].pending = 0

/-- The queue has a RELEASE record of the stream. -/
def HasRelease (s : State) (n : StreamNo) : Prop := n ∈ (s.ann.queue.filterMap releaseOf).map Prod.fst

theorem hasRelease_iff (s : State) (n : StreamNo) : HasRelease s n ↔ ∃ set, Record.release n set ∈ s.ann.queue := by
  simp only [HasRelease, List.mem_map, List.mem_filterMap, Prod.exists]
  refine ⟨fun ⟨m, set, ⟨r, mem, is⟩, same⟩ => ?_, fun ⟨set, mem⟩ => ⟨n, set, ⟨_, mem, rfl⟩, rfl⟩⟩
  subst same
  cases r with
  | object j => cases is
  | release m a => cases is; exact ⟨_, mem⟩

theorem emptied_iff_hasRelease {s : State} (hollow : Hollow s) (n : StreamNo) : Emptied s n ↔ HasRelease s n := by
  rw [hasRelease_iff]
  exact exists_congr fun set => and_iff_left_of_imp fun mem => (hollow n set mem).1

theorem nothing_left {s : State} (silent : NoLiveObject s) (hollow : Hollow s) : s.ann.queue.filterMap (livePart s) = [] := by
  refine List.filterMap_eq_nil_iff.mpr fun r mem => ?_
  cases r with
  | object k => rw [livePart, silent k mem]; rfl
  | release n set =>
    have part := (hollow n set mem).1
    exact if_pos (SlotSet.ext fun k => by rw [SlotSet.has_ofPred, ← part k])

/-- R87: the streams of those records become CLOSED; their lists are empty already. -/
structure ClosesReleased (s v : State) : Prop where
  closes : ∀ n : StreamNo, HasRelease s n → s.streams[n].state = .releasing ∧
    v.streams[n] = { s.streams[n] with state := .closed }
  keeps  : ∀ n : StreamNo, ¬ HasRelease s n → v.streams[n] = s.streams[n]

theorem closesReleased_of {s v : State} (hollow : Hollow s) (closes : ClosesEmptied s v) : ClosesReleased s v := by
  refine ⟨fun n released => ?_, fun n kept => (closes n).2 (mt (emptied_iff_hasRelease hollow n).mp kept)⟩
  obtain ⟨set, mem⟩ := (hasRelease_iff s n).mp released
  obtain ⟨-, releasing, held, pending⟩ := hollow n set mem
  refine ⟨releasing, ?_⟩
  rw [(closes n).1 ((emptied_iff_hasRelease hollow n).mpr released)]
  simp only [held, pending]

theorem ClosesReleased.fields {s v : State} (h : ClosesReleased s v) (n : StreamNo) :
    v.streams[n] = { s.streams[n] with state := v.streams[n].state } := by
  by_cases released : HasRelease s n
  · rw [(h.closes n released).2]
  · rw [h.keeps n released]

theorem ClosesReleased.total {s v : State} (h : ClosesReleased s v) :
    (v.sumStreams fun st => SlotSet.card st.held + SlotSet.card st.pending) =
      s.sumStreams fun st => SlotSet.card st.held + SlotSet.card st.pending := by
  refine congrArg List.sum (List.map_congr_left fun n _ => ?_)
  rw [h.fields n]

/-- R55: a stream that closes was RELEASING, and is not eligible before or after. -/
theorem ClosesReleased.eligible_iff {s v : State} (h : ClosesReleased s v) (map : v.map = s.map) (n : StreamNo) :
    Eligible v n ↔ Eligible s n := by
  rw [Eligible, Eligible, h.total, map]
  by_cases released : HasRelease s n
  · obtain ⟨releasing, closed⟩ := h.closes n released
    rw [closed, releasing]
    simp
  · rw [h.keeps n released]

theorem ClosesReleased.isClaimSet {s v : State} (h : ClosesReleased s v) (map : v.map = s.map) {n : StreamNo} {set : SlotSet}
    (claims : IsClaimSet v n set) : IsClaimSet s n set := by
  obtain ⟨free, lowest, size⟩ := claims
  rw [map] at free lowest
  refine ⟨free, lowest, ?_⟩
  rw [size, h.total, map, h.fields n]

theorem ClosesReleased.allClosed_iff {s v : State} (h : ClosesReleased s v) :
    v.allClosed = true ↔ ∀ n : StreamNo, s.streams[n].state = .closed ∨ HasRelease s n := by
  rw [Proofs.allClosed_iff]
  refine forall_congr' fun n => ?_
  by_cases released : HasRelease s n
  · rw [(h.closes n released).2]
    exact iff_of_true rfl (.inr released)
  · rw [h.keeps n released, or_iff_left released]

/-! ### What is offered of an empty queue -/

theorem offered_refl (v : State) : Offered v v := rfl

theorem offerFirst_of_empty {v : State} (empty : v.ann.queue = []) (w : WindowNo) :
    State.offerFirst w v = State.offerClaim w (State.leaveIfDone v) := by
  rw [State.offerFirst, empty]; rfl

theorem offerClaim_active {v : State} (active : v.station.state = .active) {n : StreamNo} (claims : v.claimant = some n)
    (w : WindowNo) : State.offerClaim w v = State.offerIn w
      { kind := .claim, sender := v.own, stream := n, slots := v.claimSet n, aux := 0 } v := by
  rw [State.offerClaim, if_pos active, claims]

theorem offerClaim_none {v : State} (none : v.station.state = .active → v.claimant = .none) (w : WindowNo) :
    State.offerClaim w v = v := by
  rw [State.offerClaim]
  split
  · next active => rw [none active]
  · rfl

theorem offerClaim_offered (w : WindowNo) (v : State) : Offered v (State.offerClaim w v) := by
  by_cases active : v.station.state = .active
  · cases claims : v.claimant with
    | none => rw [offerClaim_none (fun _ => claims)]; exact offered_refl v
    | some n => rw [offerClaim_active active claims]; exact offerIn_offered w _ v
  · rw [offerClaim_none (fun h => absurd h active)]; exact offered_refl v

/-- R98: nothing but the latch. -/
theorem noteChanges_keeps (s x : State) : (State.noteChanges s x).line = x.line ∧ (State.noteChanges s x).ann = x.ann ∧
    (State.noteChanges s x).streams = x.streams := ⟨rfl, rfl, rfl⟩

/-- R52, R136, R137, R139: a window start that does not ask. -/
theorem windowStart_silent {s : State} {w : WindowNo} {rx : Option Stretch} (reported : StartReported s (windowStartAt w))
    (unsettled : ∀ a p, s.line.transmit ≠ .settling a p) (busy : s.mayDrive = false ∨ s.line.transmit ≠ .idle) :
    exec (.windowStart w rx) s = .next (State.noteChanges s (atWindowStart w rx s)) := by
  obtain ⟨-, whole, -, transmit, -⟩ := atWindowStart_opened unsettled w rx
  have drives : (atWindowStart w rx s).mayDrive = s.mayDrive := by rw [whole]; rfl
  rw [windowStart_eq reported, State.offer, if_neg]
  rw [drives, transmit, Bool.and_eq_true, beq_iff_eq]
  rintro ⟨may, idle⟩
  exact busy.elim (fun no => by simp [no] at may) (fun no => no idle)

theorem windowOffersNothing {s : State} {w : WindowNo} {rx : Option Stretch} (reported : StartReported s (windowStartAt w))
    (unsettled : ∀ a p, s.line.transmit ≠ .settling a p) (busy : s.mayDrive = false ∨ s.line.transmit ≠ .idle) :
    ∃ t, exec (.windowStart w rx) s = .next t ∧ SegmentOpens (.window w) (windowStartAt w) rx s t ∧
      t = { s with timer := t.timer, line := t.line, latch := t.latch } ∧
      t.line.transmit = s.line.transmit ∧ t.line.txd = s.line.txd ∧ t.line.lostNote = false ∧
      Latches s t (errorFlag (cutShort s rx)) := by
  have ran := windowStart_silent (rx := rx) reported unsettled busy
  have opened := atWindowStart_opened unsettled w rx
  generalize atWindowStart w rx s = u at ran opened
  obtain ⟨opens, whole, latch, transmit, txd, note⟩ := opened
  have streams : u.streams = s.streams := by rw [whole]
  refine ⟨_, ran, segmentOpens_of_attempt opens rfl rfl, ?_, transmit, txd, note, ?_⟩
  · rw [noteChanges_eq, whole]
  · refine latches_congr (latches_noteChanges (latches_error latch)) fun f => ?_
    rw [changeFlags_same streams, Bool.or_false]

/-- R158, R160: the window start at which the leave ends. -/
theorem windowStart_leaves {s : State} {w : WindowNo} {rx : Option Stretch} {u : State}
    (checked : WindowChecked w rx s u.checkRecords) :
    let t := State.noteChanges s (State.leaveEnds u.checkRecords)
    EntersOffline u t ∧ t.line.rxErrors = u.line.rxErrors ∧ t.line.lostNote = false ∧
      t.port = s.port ∧ t.choices = s.choices ∧ t.pending = s.pending ∧
      Latches s t (fun f => errorFlag (cutShort s rx) f || f == .left || changeFlags s t f) := by
  have left : Latches u.checkRecords (State.leaveEnds u.checkRecords) (oneFlag .left) := latches_one rfl
  have opensOffline : EntersOffline u (State.enterOffline u.checkRecords) := by
    refine entersOffline_of (enterOffline_spec u.checkRecords) rfl rfl rfl rfl rfl (fun n => ?_) fun v => ⟨rfl, Iff.rfl⟩
    rw [checkRecords_eq, State.updateStreams_get]
    split <;> rfl
  refine ⟨entersOffline_withLatch opensOffline _, rfl, ?_, ?_, ?_, ?_, ?_⟩
  · exact checked.note
  · show u.checkRecords.port = s.port
    rw [checked.whole]
  · show u.checkRecords.choices = s.choices
    rw [checked.whole]
  · show u.checkRecords.pending = s.pending
    rw [checked.whole]
  · rw [changeFlags_noteChanges]
    exact latches_noteChanges (latches_trans (latches_error checked.latch) left)

/-- Settles O43: with nothing left to offer of the queue, the window start is a claim, the end of a leave, or nothing. -/
theorem windowOffersClaim : Obligations.WindowOffersClaim := by
  refine ⟨fun s w rx => windowOffersNothing, fun s w rx asks silent hollow => ?_⟩
  obtain ⟨opened, checked, ran⟩ := windowStart_asks asks rx
  have ends := windowStart_leaves checked
  generalize atWindowStart w rx s = u at opened checked ran ends
  generalize u.checkRecords = v at checked ran ends
  have released : ClosesReleased s v := closesReleased_of hollow checked.closes
  have empty : s.ann.queue.filterMap (livePart s) = [] := nothing_left silent hollow
  have map : v.map = s.map := by rw [checked.whole]
  have own : v.own = s.setup.address := by rw [checked.whole]; rfl
  have station : v.station = s.station := by rw [checked.whole]
  have offer : v.ann.offer = s.ann.offer := by rw [checked.whole]
  rw [offerFirst_of_empty (by rw [checked.whole]; exact empty)] at ran
  intro emptied
  have stays (h : s.station.state = .active ∨ ¬ ∀ n : StreamNo, s.streams[n].state = .closed ∨ emptied n) :
      State.leaveIfDone v = v := by
    refine leaveIfDone_open fun ⟨leaving, done⟩ => ?_
    rw [station] at leaving
    refine h.elim (fun active => ?_) fun no => no (released.allClosed_iff.mp done)
    rw [leaving] at active; cases active
  refine ⟨_, ran, fun open_ => ?_, fun n active eligible lowest => ?_, fun active none => ?_, fun leaving open_ => ?_,
    fun leaving done => ?_⟩
  · rw [stays open_]
    obtain ⟨opens, whole, -, note, latches⟩ := checked.offered (offerClaim_offered w v)
    refine ⟨opens, note, ?_, fun m => ?_, latches⟩
    · rw [empty] at whole; exact whole
    · have same : (State.noteChanges s (State.offerClaim w v)).streams = v.streams := by
        show (State.offerClaim w v).streams = v.streams
        rw [offerClaim_offered w v]
      rw [same]
      split
      · next h => exact (released.closes m h).2
      · next h => exact released.keeps m h
  · have claims : v.claimant = some n := claimant_lowest ((released.eligible_iff map n).mpr eligible) fun m below =>
      mt (released.eligible_iff map m).mp (lowest m below)
    rw [stays (.inl active), offerClaim_active (station ▸ active) claims, own]
    exact ⟨_, released.isClaimSet map (claimSet_isClaimSet v n), rfl, rfl, rfl⟩
  · have nobody : v.claimant = .none := claimant_none fun n => mt (released.eligible_iff map n).mp (none n)
    rw [stays (.inl active), offerClaim_none fun _ => nobody]
    exact ⟨checked.idle, offer⟩
  · rw [stays (.inr open_), offerClaim_none fun active => ?_]
    · exact ⟨checked.idle, offer⟩
    · rw [station, leaving] at active; cases active
  · have closed : v.allClosed = true := released.allClosed_iff.mpr done
    rw [leaveIfDone_done ⟨station ▸ leaving, closed⟩, offerClaim_none fun active => nomatch (active : StationState.offline = .active)]
    obtain ⟨offline, errors, note, port, choices, pending, latches⟩ := ends
    exact ⟨⟨u, opened.opens, opened.whole, offline, errors, note⟩, port, choices, pending, latches⟩

end Sys2Proof.Proofs
end

section
/-! SUPPORT. The 64 buffers, the queues and the publishers of the taps: what of the state they are about, and which
operations leave that as it is. -/

namespace Sys2Proof.Proofs

open Sys2Proof Sys2Proof.Machine Sys2Proof.Safety

/-! ### What the buffers are about -/

/-- The frames of a stream: its send queue and its frame in flight. -/
def framesOf (st : Stream) : List (List Byte) × Option InFlight := (st.queue, st.inFlight)

/-- R102: the publisher that a tap follows, unless it is OFF. -/
def publisherOf (tap : Tap) : Option (Nat × StreamNo) :=
  if tap.state = .off then none else some (tap.source, tap.sourceStream)

/-- The part of the state that `BuffersAddUp`, `QueuesFit` and `TapsDiffer` speak of. -/
structure PoolView where
  free     : Nat
  frames   : StreamNo → List (List Byte) × Option InFlight
  received : TapNo → List RxFrame × Option (Nat × StreamNo)

/-- That part of a state. -/
def poolView (s : State) : PoolView where
  free     := s.freeBuffers
  frames   := fun n => framesOf s.streams[n]
  received := fun t => (s.taps[t].queue, publisherOf s.taps[t])

/-- R82, R102, R119: the three conditions together. -/
structure PoolSound (s : State) : Prop where
  total  : BuffersAddUp s
  queues : QueuesFit s
  taps   : TapsDiffer s

theorem buffers_congr {st st' : Stream} (same : framesOf st' = framesOf st) : st'.buffers = st.buffers := by
  obtain ⟨queue, flight⟩ := Prod.mk.inj same
  rw [Stream.buffers, Stream.buffers, queue, flight]

theorem returnable_congr {st st' : Stream} (same : framesOf st' = framesOf st) : returnable st' = returnable st := by
  obtain ⟨-, flight⟩ := Prod.mk.inj same
  rw [returnable, returnable, flight]

theorem tapsDiffer_iff (s : State) : TapsDiffer s ↔
    ∀ t u : TapNo, t ≠ u → publisherOf s.taps[t] ≠ none → publisherOf s.taps[t] ≠ publisherOf s.taps[u] := by
  have follows (tap : Tap) : publisherOf tap ≠ none ↔ tap.state ≠ .off := by simp [publisherOf]
  refine forall_congr' fun t => forall_congr' fun u => imp_congr_right fun _ => ?_
  rw [follows]
  refine imp_congr_right fun on => ?_
  by_cases off : s.taps[u].state = .off
  · simp only [off, publisherOf, if_neg on]; simp
  · rw [publisherOf, publisherOf, if_neg on, if_neg off, (Option.some_injective _).ne_iff]
    exact ⟨fun differ => differ off, fun differ _ => differ⟩

theorem poolView_congr {s t : State} (free : t.freeBuffers = s.freeBuffers)
    (frames : ∀ n : StreamNo, framesOf t.streams[n] = framesOf s.streams[n])
    (received : ∀ u : TapNo, t.taps[u].queue = s.taps[u].queue ∧ publisherOf t.taps[u] = publisherOf s.taps[u]) :
    poolView t = poolView s := by
  simp only [poolView, free, frames, received]

theorem PoolSound.of_view {s t : State} (h : PoolSound s) (view : poolView t = poolView s) : PoolSound t := by
  obtain ⟨free, frames, received⟩ := PoolView.mk.inj view
  have frames (n : StreamNo) : framesOf t.streams[n] = framesOf s.streams[n] := congrFun frames n
  have queue (u : TapNo) : t.taps[u].queue = s.taps[u].queue := congrArg Prod.fst (congrFun received u)
  have publisher (u : TapNo) : publisherOf t.taps[u] = publisherOf s.taps[u] := congrArg Prod.snd (congrFun received u)
  obtain ⟨total, ⟨send, receive⟩, taps⟩ := h
  refine ⟨?_, ⟨fun n => ?_, fun u => ?_⟩, ?_⟩
  · simp only [BuffersAddUp, bufferTotal, State.sumStreams, State.sumTaps, free, buffers_congr (frames _), queue]
    exact total
  · rw [returnable_congr (frames n), (Prod.mk.inj (frames n)).1]; exact send n
  · rw [queue]; exact receive u
  · rw [tapsDiffer_iff] at taps ⊢
    simpa only [publisher] using taps

/-! ### Updates of streams and taps -/

section Same
variable (s : State)

theorem poolView_updateStreams {f : StreamNo → Stream → Stream} (keeps : ∀ n st, framesOf (f n st) = framesOf st) :
    poolView (State.updateStreams f s) = poolView s := by
  simp only [poolView, State.updateStreams_get, keeps]; rfl

theorem poolView_modifyStream (n : StreamNo) {f : Stream → Stream} (keeps : ∀ st, framesOf (f st) = framesOf st) :
    poolView (State.modifyStream n f s) = poolView s := by
  have frames (m : StreamNo) : framesOf (State.modifyStream n f s).streams[m] = framesOf s.streams[m] := by
    rw [State.modifyStream, vector_set_get]
    split
    · next here => rw [keeps, here]
    · rfl
  simp only [poolView, frames]; rfl

theorem poolView_modifyTap (t : TapNo) {f : Tap → Tap} (keeps : (f s.taps[t]).queue = s.taps[t].queue)
    (follows : publisherOf (f s.taps[t]) = publisherOf s.taps[t]) : poolView (State.modifyTap t f s) = poolView s := by
  have received (u : TapNo) : (State.modifyTap t f s).taps[u].queue = s.taps[u].queue ∧
      publisherOf (State.modifyTap t f s).taps[u] = publisherOf s.taps[u] := by
    rw [State.modifyTap, vector_set_get]
    split
    · next here => rw [here]; exact ⟨keeps, follows⟩
    · exact ⟨rfl, rfl⟩
  simp only [poolView, received]; rfl

@[simp] theorem poolView_changing (f : State → State) : poolView (State.changing f s) = poolView (f s) := rfl
@[simp] theorem poolView_causes (m : BitVec 66) : poolView (State.causes m s) = poolView s := rfl
@[simp] theorem poolView_latches (f : Flag) : poolView (State.latches f s) = poolView s := rfl
@[simp] theorem poolView_appendRecords (rs : List Record) : poolView (State.appendRecords rs s) = poolView s := rfl
@[simp] theorem poolView_dropRelease (n : StreamNo) : poolView (State.dropRelease n s) = poolView s := rfl
@[simp] theorem poolView_setMap (m : SlotMap) : poolView { s with map := m } = poolView s := rfl
@[simp] theorem poolView_detach (p : StreamNo → Bool) : poolView (State.detach p s) = poolView s := poolView_setMap s _

/-- R41, R114: a tap that becomes STALE still follows its publisher. -/
@[simp] theorem poolView_changeMap (f : SlotMap → SlotMap) : poolView (State.changeMap f s) = poolView s := by
  refine poolView_congr (State.changeMap_freeBuffers f s) (fun n => by rw [State.changeMap_streams]) fun u => ?_
  rw [changeMap_tap]
  split
  · next gone =>
    have live := ((goesStale_iff _ _ _).mp gone).1
    exact ⟨rfl, by simp only [publisherOf, live]; rfl⟩
  · exact ⟨rfl, rfl⟩

/-! ### Operations of the line unit and the cycle timer -/

@[simp] theorem poolView_atRun (run : Nat) : poolView (State.atRun run s) = poolView s := rfl
@[simp] theorem poolView_noteRun (rx : Option Stretch) : poolView (State.noteRun rx s) = poolView s := rfl
@[simp] theorem poolView_atPosition (p : Nat) : poolView (State.atPosition p s) = poolView s := rfl
@[simp] theorem poolView_openSegment (g : Segment) : poolView (State.openSegment g s) = poolView s := rfl
@[simp] theorem poolView_endAttempt : poolView (State.endAttempt s) = poolView s := rfl
@[simp] theorem poolView_handOver (a : Attempt) : poolView (State.handOver a s) = poolView s := rfl
@[simp] theorem poolView_setTransmit (x : Transmit) (l : Level) : poolView (State.setTransmit x l s) = poolView s := rfl
@[simp] theorem poolView_assembled (a : Attempt) (bit : Nat) : poolView (State.assembled a bit s) = poolView s := rfl

@[simp] theorem poolView_rxError : poolView (State.rxError s) = poolView s := by rw [rxError_eq]; rfl

@[simp] theorem poolView_beginCharacter (r : Reception) : poolView (State.beginCharacter r s) = poolView s := by
  unfold State.beginCharacter
  split
  · split
    · rfl
    · exact poolView_rxError s
    · rfl
  · rfl

@[simp] theorem poolView_noteReception (rx : Option Stretch) : poolView (State.noteReception rx s) = poolView s := by
  unfold State.noteReception
  split
  · rfl
  · dsimp only
    split <;> exact poolView_beginCharacter s _

@[simp] theorem poolView_noCharacter : poolView (State.noCharacter s) = poolView s := by
  unfold State.noCharacter; split <;> rfl

@[simp] theorem poolView_closeSegment (rx : Option Stretch) : poolView (State.closeSegment rx s) = poolView s := by
  simp [State.closeSegment, apply_ite poolView]

@[simp] theorem poolView_settleMark : poolView (State.settleMark s) = poolView s := by
  unfold State.settleMark; split <;> rfl

@[simp] theorem poolView_takeMark (sender : Nat) : poolView (State.takeMark sender s) = poolView s := by
  unfold State.takeMark; split <;> rfl

@[simp] theorem poolView_markFault : poolView (State.markFault s) = poolView s := by
  unfold State.markFault; split <;> rfl

@[simp] theorem poolView_rearm : poolView (State.rearm s) = poolView s := by
  unfold State.rearm; split <;> rfl

@[simp] theorem poolView_expire (run : Nat) : poolView (State.expire run s) = poolView s := by rw [expire_eq]; rfl

@[simp] theorem poolView_runOver (run : Nat) : poolView (State.runOver run s) = poolView s := by
  unfold State.runOver; split <;> rfl

@[simp] theorem poolView_runSettled : poolView (State.runSettled s) = poolView s := by
  unfold State.runSettled
  split
  · exact poolView_rearm _
  · rfl

@[simp] theorem poolView_breakFault (bit : Nat) : poolView (State.breakFault bit s) = poolView s := by
  simp only [State.breakFault]
  split
  · rfl
  · exact poolView_rearm _

@[simp] theorem poolView_handBreak : poolView (State.handBreak s) = poolView s := by
  unfold State.handBreak; split <;> rfl

@[simp] theorem poolView_loneStartReport : poolView (State.loneStartReport s) = poolView s :=
  poolView_handBreak _

@[simp] theorem poolView_loneStartSettled : poolView (State.loneStartSettled s) = poolView s := by
  unfold State.loneStartSettled
  split
  · exact poolView_loneStartReport s
  · rfl

@[simp] theorem poolView_lineHeld : poolView s.lineHeld = poolView s := by
  unfold State.lineHeld; split <;> rfl

@[simp] theorem poolView_breakSegment (rx : Option Stretch) : poolView (State.breakSegment rx s) = poolView s := by
  simp [State.breakSegment, apply_ite poolView]

@[simp] theorem poolView_drive (run : Nat) (rx : Option Stretch) (a : Attempt) :
    poolView (State.drive run rx a s) = poolView s := by
  simp [State.drive, apply_ite poolView]

@[simp] theorem poolView_openCycle (kind : BoundaryKind) : poolView (State.openCycle kind s) = poolView s := by
  have ended : poolView s.endBreak = poolView s := by unfold State.endBreak; split <;> rfl
  have marks (u : State) : poolView u.handMark = poolView u := by unfold State.handMark; split <;> rfl
  have closed : poolView (State.closeSegment none s.endBreak) = poolView s := (poolView_closeSegment _ _).trans ended
  cases kind
  · exact (marks _).trans closed
  · exact closed

/-! ### Operations of the streams, the slot map and the announcement unit -/

theorem framesOf_lose (k : SlotSet) (st : Stream) : framesOf (st.lose k) = framesOf st := by rw [lose_eq]; rfl

@[simp] theorem poolView_reportLoss (r : Option LossReport) : poolView (State.reportLoss r s) = poolView s := by
  cases r with
  | none => rfl
  | some r => exact poolView_modifyStream s _ (framesOf_lose _)

@[simp] theorem poolView_claimOnOwn (slots : SlotSet) : poolView (State.claimOnOwn slots s) = poolView s := by
  simp only [State.claimOnOwn]; split <;> rfl

@[simp] theorem poolView_checkRecords : poolView s.checkRecords = poolView s := by
  simp only [State.checkRecords]
  exact poolView_updateStreams (State.setQueue _ s) fun n st => by split <;> rfl

@[simp] theorem poolView_offerClaim (w : WindowNo) : poolView (State.offerClaim w s) = poolView s := by
  unfold State.offerClaim
  split
  · split <;> rfl
  · rfl

@[simp] theorem poolView_claimComplete (n : StreamNo) (slots : SlotSet) :
    poolView (State.claimComplete n slots s) = poolView s := by
  have claims : poolView (State.modifyStream n (Stream.claimed (s.map.claimable slots)
      (State.changeMap (fun m => m.claim s.own n slots) s).setup.attemptReload)
      (State.changeMap (fun m => m.claim s.own n slots) s)) = poolView s := by
    rw [poolView_modifyStream _ n fun st => by rw [claimed_eq]; rfl, poolView_changeMap]
  simp only [State.claimComplete]
  split <;> exact claims

@[simp] theorem poolView_countChoice (free : Nat) : poolView (State.countChoice free s) = poolView s := by
  unfold State.countChoice; split <;> rfl

/-! ### Boundaries -/

@[simp] theorem poolView_ageMap : poolView s.ageMap = poolView s := by
  simp only [State.ageMap]
  rw [poolView_changeMap]
  exact poolView_updateStreams s fun n st => by rw [reported_eq]; rfl

@[simp] theorem poolView_releasedSilently (p : StreamNo → Bool) : poolView (releasedSilently p s) = poolView s := by
  refine poolView_congr (by rw [releasedSilently]) (fun n => ?_) fun u => by rw [releasedSilently]; exact ⟨rfl, rfl⟩
  simp only [releasedSilently, Fin.getElem_fin, Vector.getElem_ofFn]
  split <;> rfl

/-- R25 to R88: what a boundary does before station control takes it moves no frame. -/
@[simp] theorem poolView_beforeStation (kind : BoundaryKind) : poolView (beforeStation kind s) = poolView s := by
  have closes (u : State) : poolView u.countCloses = poolView u :=
    poolView_updateStreams u fun n st => by split <;> rfl
  rw [beforeStation, countWaits_eq, releaseOverdue_eq, poolView_causes, 
    poolView_updateStreams (f := counted s _) _ fun _ _ => rfl, poolView_releasedSilently, closes, poolView_ageMap,
    poolView_openCycle]

/-- R89, R155: the queues stay at entry to MUTED. -/
@[simp] theorem poolView_enterMuted : poolView s.enterMuted = poolView s := by
  refine poolView_congr (by simp [State.enterMuted]) (fun n => ?_) fun u => by simp [State.enterMuted]
  simp only [State.enterMuted, State.latches_streams, State.updateStreams_get, muted_eq, framesOf]
  simp

end Same

end Sys2Proof.Proofs
end

section
/-! SUPPORT. The 64 buffers, the queues and the publishers of the taps stay sound where frames move: between a send queue,
the trunk, a receive queue and the pool. -/

namespace Sys2Proof.Proofs

open Sys2Proof Sys2Proof.Machine Sys2Proof.Safety

/-! ### Sums over streams and taps -/

/-- A sum over a vector of which one element is replaced. -/
theorem sum_vector_set {α : Type} {size : Nat} (f : α → Nat) (v : Vector α size) (i : Fin size) (a : α) :
    ((List.finRange size).map fun j => f (v.set i a)[j]).sum + f v[i] =
      ((List.finRange size).map fun j => f v[j]).sum + f a := by
  have others : (∑ j ∈ Finset.univ.erase i, f (v.set i a)[j]) = ∑ j ∈ Finset.univ.erase i, f v[j] :=
    Finset.sum_congr rfl fun j other => by rw [vector_set_get, if_neg (Finset.ne_of_mem_erase other)]
  have here : f (v.set i a)[i] = f a := by rw [vector_set_get, if_pos rfl]
  rw [← Fin.sum_univ_def, ← Fin.sum_univ_def, ← Finset.add_sum_erase _ _ (Finset.mem_univ i),
    ← Finset.add_sum_erase _ _ (Finset.mem_univ i), others, here]
  omega

namespace PoolSound
variable {s t : State} (h : PoolSound s)
include h

/-- Frames move between one stream and the pool. -/
theorem moveStream {n : StreamNo} {st : Stream} (streams : t.streams = s.streams.set n st) (taps : t.taps = s.taps)
    (balance : t.freeBuffers + st.buffers = s.freeBuffers + s.streams[n].buffers)
    (fits : st.queue.length + returnable st ≤ 8) : PoolSound t := by
  obtain ⟨total, ⟨send, receive⟩, differ⟩ := h
  refine ⟨?_, ⟨fun m => ?_, by rwa [taps]⟩, by rwa [TapsDiffer, taps]⟩
  · have sum := sum_vector_set Stream.buffers s.streams n st
    simp only [BuffersAddUp, bufferTotal, State.sumStreams, State.sumTaps, streams, taps] at total ⊢
    omega
  · rw [streams, vector_set_get]
    split
    · exact fits
    · exact send m

/-- Frames move between one tap and the pool. -/
theorem moveTap {u : TapNo} {tap : Tap} (taps : t.taps = s.taps.set u tap) (streams : t.streams = s.streams)
    (balance : t.freeBuffers + tap.queue.length = s.freeBuffers + s.taps[u].queue.length) (fits : tap.queue.length ≤ 8)
    (differs : ∀ v : TapNo, v ≠ u → publisherOf tap ≠ none → publisherOf tap ≠ publisherOf s.taps[v]) :
    PoolSound t := by
  obtain ⟨total, ⟨send, receive⟩, differ⟩ := h
  have here (v : TapNo) : t.taps[v] = if v = u then tap else s.taps[v] := by rw [taps, vector_set_get]
  refine ⟨?_, ⟨by rwa [streams], fun v => ?_⟩, (tapsDiffer_iff t).mpr fun v w apart on => ?_⟩
  · have sum := sum_vector_set (fun tap : Tap => tap.queue.length) s.taps u tap
    simp only [BuffersAddUp, bufferTotal, State.sumStreams, State.sumTaps, streams, taps] at total ⊢
    omega
  · rw [here]
    split
    · exact fits
    · exact receive v
  · rw [here] at on ⊢
    rw [here]
    by_cases first : v = u
    · rw [if_pos first] at on ⊢
      rw [if_neg fun e => apart (first.trans e.symm)]
      exact differs w (fun e => apart (first.trans e.symm)) on
    · rw [if_neg first] at on ⊢
      split
      · intro same
        exact differs v first (same ▸ on) same.symm
      · exact (tapsDiffer_iff s).mp differ v w apart on

/-- Frames move between one tap and the pool, and the tap follows the publisher that it followed. -/
theorem moveFrames {u : TapNo} {tap : Tap} (taps : t.taps = s.taps.set u tap) (streams : t.streams = s.streams)
    (balance : t.freeBuffers + tap.queue.length = s.freeBuffers + s.taps[u].queue.length) (fits : tap.queue.length ≤ 8)
    (follows : publisherOf tap = publisherOf s.taps[u]) : PoolSound t :=
  h.moveTap taps streams balance fits fun v other on => follows ▸
    (tapsDiffer_iff s).mp h.taps u v other.symm (follows ▸ on)

end PoolSound

/-! ### One tap -/

theorem publisherOf_offline (tap : Tap) : tap.offline.queue = tap.queue ∧ publisherOf tap.offline = publisherOf tap := by
  unfold Tap.offline
  split
  · exact ⟨rfl, rfl⟩
  · next on => exact ⟨rfl, (if_neg nofun).trans (if_neg on).symm⟩

/-- R109, R113: a tap that accounts for a frame still follows its publisher. -/
theorem publisherOf_account {tap : Tap} (on : tap.state ≠ .off) (seq next : Byte) :
    (Tap.account seq next tap).queue = tap.queue ∧ publisherOf (Tap.account seq next tap) = publisherOf tap := by
  unfold Tap.account
  split
  · exact ⟨rfl, rfl⟩
  · exact ⟨rfl, (if_neg nofun).trans (if_neg on).symm⟩

/-- R110 to R112: a receive queue grows by the frames that take a buffer. -/
theorem tapQueued_length {tap : Tap} (fits : tap.queue.length ≤ 8) (free : Nat) (frame : RxFrame) :
    (tapQueued free frame tap).queue.length = tap.queue.length + if queueTakes free tap = true then 1 else 0 := by
  by_cases room : tap.queue.length < 8
  · by_cases none : free = 0 <;> simp [tapQueued, queueTakes, room, none]
  · have full : tap.queue.length = 8 := by omega
    cases policy : tap.policy <;> simp [tapQueued, queueTakes, policy, full]

theorem publisherOf_tapQueued (free : Nat) (frame : RxFrame) (tap : Tap) :
    publisherOf (tapQueued free frame tap) = publisherOf tap := by
  unfold tapQueued
  split
  · split <;> rfl
  · split <;> rfl

/-! ### Streams -/

/-- R83: all that FLUSH does. -/
theorem flush_eq (n : StreamNo) (s : State) : State.flush n s = { s with
    streams := s.streams.set n (flushedStream s.streams[n]), freeBuffers := s.freeBuffers + s.streams[n].queue.length } := by
  simp only [State.flush, State.discardQueue, State.modifyStream, State.returnBuffers, Fin.getElem_fin,
    Vector.getElem_set_self, Vector.set_set]
  rfl

section Moves
variable {s : State} (h : PoolSound s)
include h

/-- R95: a frame that comes back goes to the head of its queue, or its buffer to the pool. -/
theorem PoolSound.requeue (n : StreamNo) : PoolSound (State.requeue n s) := by
  have fits := h.queues.1 n
  rw [requeue_eq]
  refine h.moveStream rfl rfl ?_ ?_
  all_goals
    rw [returnedStream]
    split
    · next landed => simp_all [returnedBuffers, Stream.buffers, returnable]
    · next f flies =>
      cases gone : f.discard <;> simp_all [returnedBuffers, Stream.buffers, returnable] <;> omega

theorem PoolSound.frameReturns (f : SlotFrame) : PoolSound (State.frameReturns f s) := by
  unfold State.frameReturns
  split
  · exact h.requeue _
  · exact h

theorem PoolSound.attemptReturns (a : Attempt) : PoolSound (State.attemptReturns a s) := by
  have ended : PoolSound s.endAttempt := h.of_view (poolView_endAttempt s)
  cases a with
  | slotFrame k f => exact ended.frameReturns f
  | _ => exact h.of_view rfl

theorem PoolSound.attemptFault (a : Attempt) : PoolSound (State.attemptFault a s) :=
  (h.attemptReturns a).of_view (poolView_markFault _)

theorem PoolSound.attemptLost (a : Attempt) : PoolSound (State.attemptLost a s) := by
  cases a with
  | slotFrame k f =>
    exact PoolSound.frameReturns (s := { s.endAttempt with line := { s.endAttempt.line with lostNote := true } })
      (h.of_view rfl) f
  | announcement w c =>
    simp only [State.attemptLost]
    split
    · exact h.of_view (poolView_modifyStream (State.setOffer none s.endAttempt) _ fun st => by
        rw [loseClaim_eq, lostClaimStream]; split_ifs <;> rfl)
    · exact h.of_view rfl
  | _ => exact h.of_view rfl

/-- R133: a SETTLING attempt is settled. -/
theorem PoolSound.settle : PoolSound s.settle := by
  unfold State.settle
  split
  · exact h.attemptLost _
  · exact h.attemptFault _
  · exact h

/-- R6: a break cuts the current attempt. -/
theorem PoolSound.cut : PoolSound s.cut := by
  rw [cut_eq]
  cases cutAttempt s.line.transmit with
  | none => exact h
  | some a => exact h.attemptReturns a

/-- R92: the head of the queue is launched, where no frame is in flight. -/
theorem PoolSound.launch {n : StreamNo} {payload : List Byte} (landed : s.streams[n].inFlight = none)
    (head : s.streams[n].queue.head? = some payload) : PoolSound (State.modifyStream n (Stream.launch payload) s) := by
  obtain ⟨rest, queue⟩ := List.head?_eq_some_iff.mp head
  have fits := h.queues.1 n
  refine h.moveStream rfl rfl ?_ ?_
  · simp_all [State.modifyStream, Stream.launch, Stream.buffers]
  · simp_all [Stream.launch, returnable]

/-- R94: the buffer of a frame that has gone out returns. -/
theorem PoolSound.dataComplete (n : StreamNo) : PoolSound (State.dataComplete n s) := by
  have fits := h.queues.1 n
  have sent : PoolSound (State.modifyStream n Stream.sentOne
      (State.returnBuffers (if s.streams[n].inFlight.isSome then 1 else 0) s)) := by
    refine h.moveStream rfl rfl ?_ ?_
    · show s.freeBuffers + _ + (s.streams[n].queue.length + 0) = s.freeBuffers + (s.streams[n].queue.length + _)
      omega
    · show s.streams[n].queue.length + 0 ≤ 8
      omega
  simp only [State.dataComplete]
  split <;> exact sent.of_view rfl

/-- R83: the buffers of a queue that is discarded return, and a frame that is in flight will not come back. -/
theorem PoolSound.shut {t : State} {n : StreamNo} {st : Stream} (frames : framesOf st = framesOf (flushedStream s.streams[n]))
    (streams : t.streams = s.streams.set n st) (taps : t.taps = s.taps)
    (free : t.freeBuffers = s.freeBuffers + s.streams[n].queue.length) : PoolSound t := by
  refine h.moveStream streams taps ?_ ?_
  · rw [free, buffers_congr frames]
    simp [Stream.buffers, flushedStream, Nat.add_assoc]
  · rw [returnable_congr frames, (Prod.mk.inj frames).1]
    cases flies : s.streams[n].inFlight <;> simp_all [flushedStream, returnable]

/-- R80: a stream that is closed. -/
theorem PoolSound.beginClose (n : StreamNo) : PoolSound (State.beginClose n s) := by
  rw [beginClose_eq]
  refine h.shut (st := shutStream (s.claimInFlight n) s.streams[n]) ?_ rfl rfl rfl
  rw [shutStream, closedStream]
  split <;> rfl

theorem PoolSound.flush (n : StreamNo) : PoolSound (State.flush n s) := by
  rw [flush_eq]
  exact h.shut rfl rfl rfl rfl

theorem PoolSound.closeStreams (ns : List StreamNo) : PoolSound (State.closeStreams ns s) := by
  induction ns generalizing s with
  | nil => exact h
  | cons n ns ih => exact ih (h.beginClose n)

/-! ### Entry to OFFLINE -/

/-- R90, R115, R160: all queues of the streams return to the pool, and the taps keep theirs. -/
theorem PoolSound.enterOffline : PoolSound s.enterOffline := by
  obtain ⟨total, ⟨send, receive⟩, differ⟩ := h
  have taps (u : TapNo) : s.enterOffline.taps[u] = s.taps[u].offline := by simp [State.enterOffline]
  have queue (u : TapNo) : s.enterOffline.taps[u].queue = s.taps[u].queue := by rw [taps]; exact (publisherOf_offline _).1
  have publisher (u : TapNo) : publisherOf s.enterOffline.taps[u] = publisherOf s.taps[u] := by
    rw [taps]; exact (publisherOf_offline _).2
  have empty (n : StreamNo) : s.enterOffline.streams[n].buffers = 0 ∧
      s.enterOffline.streams[n].queue.length + returnable s.enterOffline.streams[n] = 0 := by
    rw [enterOffline_stream, offline_eq]; exact ⟨rfl, rfl⟩
  have free : s.enterOffline.freeBuffers = s.freeBuffers + s.sumStreams Stream.buffers := rfl
  refine ⟨?_, ⟨fun n => ?_, fun u => ?_⟩, ?_⟩
  · have none : s.enterOffline.sumStreams Stream.buffers = 0 := by
      simp only [State.sumStreams, empty]; rfl
    have same : (s.enterOffline.sumTaps fun u => u.queue.length) = s.sumTaps fun u => u.queue.length := by
      simp only [State.sumTaps, queue]
    rw [BuffersAddUp, bufferTotal, free, none, same]
    exact total
  · rw [(empty n).2]; omega
  · rw [queue]; exact receive u
  · rw [tapsDiffer_iff] at differ ⊢
    simpa only [publisher] using differ

theorem PoolSound.leaveEnds : PoolSound s.leaveEnds := h.enterOffline.of_view (poolView_latches _ _)

theorem PoolSound.leaveIfDone : PoolSound s.leaveIfDone := by
  unfold State.leaveIfDone
  split
  · exact h.leaveEnds
  · exact h

/-- R159: CLASH. -/
theorem PoolSound.clash : PoolSound s.clash := by
  have emptied : PoolSound (State.updateStreams (fun _ st => { st with held := 0, pending := 0 })
      (State.detach (fun _ => true) s)) := by
    refine h.of_view (.trans (poolView_updateStreams _ fun _ _ => ?_) (poolView_detach s _))
    rfl
  exact emptied.enterOffline.of_view (poolView_latches _ _)

/-! ### Taps -/

/-- R109, R113: the accounting moves no frame. -/
theorem PoolSound.tapAccount {u : TapNo} (on : s.taps[u].state ≠ .off) (seq next : Byte) :
    PoolSound (State.tapAccount u seq next s) := by
  obtain ⟨queue, follows⟩ := publisherOf_account on seq next
  have accounted := h.of_view (poolView_modifyTap s u queue follows)
  simp only [State.tapAccount]
  split <;> exact accounted.of_view rfl

/-- R110 to R112: a DATA frame is queued with a buffer of the pool, or with that of the frame it replaces, or not at all. -/
theorem PoolSound.tapQueue (u : TapNo) (frame : RxFrame) : PoolSound (State.tapQueue u frame s) := by
  obtain ⟨whole, -⟩ := tapQueue_spec u frame s
  have fits := h.queues.2 u
  have length := tapQueued_length fits s.freeBuffers frame
  have takes : queueTakes s.freeBuffers s.taps[u] = true → s.taps[u].queue.length < 8 ∧ s.freeBuffers ≠ 0 := by
    simp [queueTakes]
  rw [whole]
  refine h.moveFrames (tap := tapQueued s.freeBuffers frame s.taps[u]) rfl rfl ?_ ?_ (publisherOf_tapQueued _ _ _)
  · show s.freeBuffers - (if queueTakes s.freeBuffers s.taps[u] = true then 1 else 0) + _ = _
    rw [length]
    split
    · next granted => have := takes granted; omega
    · omega
  · rw [length]
    split
    · next granted => exact (takes granted).1
    · exact fits

/-- R108: a slot frame in the tap that follows its publisher. -/
theorem PoolSound.tapTake (f : SlotFrame) : PoolSound (State.tapTake f s) := by
  unfold State.tapTake
  split
  · exact h
  · next u found =>
    have accounted := h.tapAccount (tapFor_eq_some found).1
    split
    · exact (accounted _ _).tapQueue _ _
    · exact accounted _ _

end Moves

end Sys2Proof.Proofs
end

section
/-! SUPPORT. The 64 buffers, the queues and the publishers of the taps stay sound through every request, however its bytes
come through the port, and every event of the pins. -/

namespace Sys2Proof.Proofs

open Sys2Proof Sys2Proof.Machine Sys2Proof.Safety

/-! ### Conditions that no byte of the port breaks -/

section Port
variable {P : State → Prop} (port : ∀ (s : State) (p : Port), P s → P { s with port := p })
  (row : ∀ r ∈ requestTable, ∀ (args : List Byte) (s : State), P s → P (r.take args s).after)
  (commit : ∀ s : State, P s → P s.commitOwed)
include port row

/-- R174, R175: a condition on what is not the port, which every request keeps, is kept when a request is taken. -/
theorem takeRequest_induction {s : State} (h : P s) : P s.takeRequest := by
  have ready : P (State.modifyPort (fun p => { p with phase := .answer }) s) := port s _ h
  refine port (answerRequest _ _ _ _).after _ ?_
  unfold answerRequest
  split
  · exact ready
  · split
    · exact ready
    · next found =>
      split
      · exact ready
      · exact row _ (List.mem_of_find?_eq_some found) _ _ ready

include commit

/-- R172 to R176: one byte. -/
theorem clock_induction {s : State} (h : P s) (b : Byte) : P (State.clock s b) := by
  unfold State.clock
  split
  · exact h
  · split
    · exact h
    · exact port s _ h
    · simp only [State.clockCount]
      split
      · exact port s _ h
      · exact takeRequest_induction port row (port s _ h)
    · simp only [State.clockArgument]
      split
      · exact port s _ h
      · exact takeRequest_induction port row (port s _ h)
    · unfold State.clockAnswer
      split
      · exact port s _ h
      · exact port s.commitOwed _ (commit s h)
    · exact port s _ h

/-- R172 to R176: a condition on what is not the port, which every request and every commit keeps, is kept by every run of
bytes. -/
theorem clockBytes_induction (bytes : List Byte) {s : State} (h : P s) : P (State.clockBytes bytes s) := by
  induction bytes generalizing s with
  | nil => exact h
  | cons b bytes ih => exact ih (clock_induction port row commit h b)

end Port

/-! ### Requests -/

/-- R79: a stream that is opened keeps what frames it has. -/
theorem framesOf_opening (wanted reload : Nat) (st : Stream) : framesOf (st.opening wanted reload) = framesOf st := rfl

theorem buffers_pushed (st : Stream) (payload : List Byte) :
    Stream.buffers { st with queue := st.queue ++ [payload] } = st.buffers + 1 := by
  simp only [Stream.buffers, List.length_append, List.length_singleton, Nat.add_right_comm]

/-- R82: a send queue with room, counting the frame that may return. -/
theorem room_of_not_full {st : Stream} (room : ¬ st.full = true) : st.queue.length + returnable st < 8 := by
  simp only [Stream.full, Bool.or_eq_true, Bool.and_eq_true, decide_eq_true_eq, beq_iff_eq, not_or, not_and] at room
  obtain ⟨short, seven⟩ := room
  unfold returnable
  cases flies : st.inFlight with
  | none => dsimp only; omega
  | some f =>
    rw [flies] at seven
    dsimp only at seven ⊢
    split
    · omega
    · next returns =>
      have := mt seven (by simp [returns])
      omega

section Requests
variable (args : List Byte) {s : State} (h : PoolSound s)
include h

theorem takeSetup_sound : PoolSound (takeSetup args s).after := by
  unfold takeSetup
  split
  · exact h
  · next record _ =>
    split
    · exact h
    · exact h.of_view (poolView_updateStreams { s with setup := record } fun _ _ => rfl)

theorem takeStart_sound : PoolSound (takeStart args s).after := by
  unfold takeStart
  split
  · exact h
  · split
    · exact h
    · exact h.of_view rfl

/-- R157: a leave. -/
theorem PoolSound.beginLeave : PoolSound s.beginLeave := by
  have leaving : PoolSound { s with station := { s.station with state := .leaving } } := h.of_view rfl
  have closed := leaving.closeStreams ((List.finRange 8).filter fun n => s.streams[n].isOpen)
  exact PoolSound.leaveIfDone (closed.of_view rfl)

theorem takeStop_sound : PoolSound (takeStop args s).after := by
  unfold takeStop
  split
  · exact h.enterOffline.of_view (poolView_changing s _)
  · exact h.enterOffline.of_view (poolView_changing s _)
  · exact h.beginLeave.of_view (poolView_changing s _)
  · exact h

theorem takeOpenStream_sound : PoolSound (takeOpenStream args s).after := by
  unfold takeOpenStream
  split
  · exact h
  · split
    · exact h
    · exact h.of_view (poolView_modifyStream s _ (framesOf_opening _ _))

theorem takeCloseStream_sound : PoolSound (takeCloseStream args s).after := by
  unfold takeCloseStream
  split
  · exact h
  · next n _ =>
    split
    · exact h
    · refine PoolSound.of_view (s := State.closeStream n s) ?_ (poolView_changing s _)
      have closed := h.beginClose n
      simp only [State.closeStream]
      refine PoolSound.leaveIfDone ?_
      split
      · exact closed.of_view (poolView_appendRecords _ _)
      · exact closed

theorem takeSuspended_sound (value : Bool) : PoolSound (takeSuspended value args s).after := by
  unfold takeSuspended
  split
  · exact h
  · split
    · exact h
    · exact h.of_view (poolView_modifyStream s _ (f := fun st => { st with suspended := value }) fun _ => rfl)

/-- R82, R121: a payload is queued where there is room, with a buffer that is free. -/
theorem takePush_sound : PoolSound (takePush args s).after := by
  unfold takePush
  split
  · exact h
  · next n payload _ =>
    split_ifs with shut full reserve
    · exact h
    · exact h
    · exact h
    · have room := room_of_not_full full
      refine h.moveStream rfl rfl ?_ ?_
      · show s.freeBuffers - 1 + Stream.buffers { s.streams[n] with queue := s.streams[n].queue ++ [payload] } = _
        rw [buffers_pushed]
        omega
      · show (s.streams[n].queue ++ [payload]).length + returnable s.streams[n] ≤ 8
        rw [List.length_append, List.length_singleton]
        omega

theorem takeFlush_sound : PoolSound (takeFlush args s).after := by
  unfold takeFlush
  split
  · exact h
  · split
    · exact h
    · exact h.flush _

/-- R104: a tap is turned on where no tap follows its publisher. -/
theorem takeTapOn_sound : PoolSound (takeTapOn args s).after := by
  unfold takeTapOn
  split
  · exact h
  · next u source n policy _ =>
    split_ifs with on followed
    · exact h
    · exact h
    · refine h.moveTap rfl rfl rfl (h.queues.2 u) fun v _ _ same => ?_
      have free := Option.not_isSome_iff_eq_none.mp followed
      refine tapFor_eq_none free v ?_
      have publisher : publisherOf s.taps[v] = some (source, n) := same.symm.trans (if_neg nofun)
      unfold publisherOf at publisher
      split at publisher
      · cases publisher
      · next on =>
        cases publisher
        exact ⟨on, rfl, rfl⟩

/-- R105: a tap is turned off, and its buffers return. -/
theorem takeTapOff_sound : PoolSound (takeTapOff args s).after := by
  unfold takeTapOff
  split
  · exact h
  · next u _ =>
    split
    · exact h
    · exact h.moveTap (t := State.turnOff u s) rfl rfl rfl (Nat.zero_le _) fun _ _ on => absurd rfl on

theorem takePull_sound : PoolSound (takePull args s).after := by
  unfold takePull
  split
  · exact h
  · next u _ =>
    split
    · exact h
    · split
      · exact h
      · exact h.of_view (poolView_modifyTap s u (f := fun tap => { tap with pullMark := true }) rfl rfl)

omit h in
/-- The requests that read records leave all but the port and the latch alone. -/
theorem readRequests_same : (takeReadStream args s).after = s ∧ (takeReadTap args s).after = s ∧
    poolView (takeSetEnables args s).after = poolView s := by
  refine ⟨?_, ?_, ?_⟩
  · unfold takeReadStream; split <;> rfl
  · unfold takeReadTap; split <;> rfl
  · unfold takeSetEnables; split <;> rfl

end Requests

/-- 10.6: every row of the request table. -/
theorem row_sound {r : RequestRow} (mem : r ∈ requestTable) (args : List Byte) {s : State} (h : PoolSound s) :
    PoolSound (r.take args s).after := by
  obtain ⟨readStream, readTap, enables⟩ := readRequests_same args (s := s)
  simp only [requestTable, List.mem_cons, List.not_mem_nil, or_false] at mem
  rcases mem with rfl | rfl | rfl | rfl | rfl | rfl | rfl | rfl | rfl | rfl | rfl | rfl | rfl | rfl | rfl | rfl | rfl | rfl | rfl
  · exact takeSetup_sound args h
  · exact takeStart_sound args h
  · exact takeStop_sound args h
  · exact h.of_view rfl
  · exact takeOpenStream_sound args h
  · exact takeCloseStream_sound args h
  · exact takeSuspended_sound args h true
  · exact takeSuspended_sound args h false
  · exact takePush_sound args h
  · exact takeFlush_sound args h
  · exact takeTapOn_sound args h
  · exact takeTapOff_sound args h
  · exact takePull_sound args h
  · exact h
  · exact readStream.symm ▸ h
  · exact readTap.symm ▸ h
  · exact h
  · exact h.of_view rfl
  · exact h.of_view enables

/-- R107, R169: a commit; that of a PULL returns the buffer of the head that it removes. -/
theorem PoolSound.commitOwed {s : State} (h : PoolSound s) : PoolSound s.commitOwed := by
  unfold State.commitOwed
  split
  · next u _ =>
    unfold State.commitPull
    split
    · next marked =>
      obtain ⟨-, some⟩ : s.taps[u].pullMark = true ∧ ¬ s.taps[u].queue = [] := by simpa using marked
      have long := List.length_pos_iff.mpr some
      have fits := h.queues.2 u
      refine h.moveFrames (t := State.returnBuffers 1 _) rfl rfl ?_ ?_ rfl
      · show s.freeBuffers + 1 + s.taps[u].queue.tail.length = _
        rw [List.length_tail]; omega
      · show s.taps[u].queue.tail.length ≤ 8
        rw [List.length_tail]; omega
    · exact h.of_view (poolView_modifyTap s u (f := fun tap => { tap with pullMark := false }) rfl rfl)
  · exact h.of_view rfl
  · exact h

theorem PoolSound.answerOut {s : State} (h : PoolSound s) : PoolSound s.answerOut := h.commitOwed.of_view rfl

theorem PoolSound.clockBytes (bytes : List Byte) {s : State} (h : PoolSound s) : PoolSound (State.clockBytes bytes s) :=
  clockBytes_induction (fun _ _ hs => hs.of_view rfl) (fun _ mem args _ hs => row_sound mem args hs)
    (fun _ hs => hs.commitOwed) bytes h

/-! ### Pins and resets -/

/-- R76, R103, R120: after reset all buffers are free and every tap is OFF. -/
theorem resetBlocks_sound (r : Setup) (s : State) : PoolSound (State.resetBlocks r s) := by
  have stream (n : StreamNo) : (State.resetBlocks r s).streams[n] = .reset r.attemptReload := Vector.getElem_replicate _
  have tap (u : TapNo) : (State.resetBlocks r s).taps[u] = .reset := Vector.getElem_replicate _
  have free : (State.resetBlocks r s).freeBuffers = 64 := rfl
  refine ⟨?_, ⟨fun n => ?_, fun u => ?_⟩, fun u _ _ on => absurd ?_ on⟩
  · simp only [BuffersAddUp, bufferTotal, State.sumStreams, State.sumTaps, stream, tap, free]
    rfl
  · rw [stream]; exact Nat.zero_le _
  · rw [tap]; exact Nat.zero_le _
  · rw [tap]; rfl

theorem PoolSound.selRises {s : State} (h : PoolSound s) : PoolSound s.selRises := by
  unfold State.selRises
  split
  · dsimp only
    split
    · exact resetBlocks_sound _ _
    · refine PoolSound.of_view (s := (State.setSel false s).abandonCommit) ?_ rfl
      unfold State.abandonCommit
      split
      · exact h.of_view (poolView_modifyTap (State.setSel false s) _ (f := fun tap => { tap with pullMark := false }) rfl rfl)
      · exact h.of_view rfl
      · exact h.of_view rfl
  · exact h

theorem poolView_selFalls (s : State) : poolView s.selFalls = poolView s := by
  unfold State.selFalls
  split
  · rfl
  · dsimp only; split <;> rfl

theorem poolView_pinResetRelease (s : State) : poolView s.pinResetRelease = poolView s := by
  unfold State.pinResetRelease; split <;> rfl

theorem poolView_initialisationEnd (s : State) : poolView s.initialisationEnd = poolView s := by
  unfold State.initialisationEnd; split <;> rfl

end Sys2Proof.Proofs
end

section
/-! SUPPORT. The 64 buffers, the queues and the publishers of the taps stay sound through every event of the trunk, and the
statement that every step keeps them. -/

namespace Sys2Proof.Proofs

open Sys2Proof Sys2Proof.Machine Sys2Proof.Safety

section Events
variable {s : State} (h : PoolSound s)
include h

/-! ### Boundaries -/

/-- R155, R158: station control moves frames where a leave ends. -/
theorem PoolSound.stationBoundary (kind : BoundaryKind) (taken : StationState) :
    PoolSound (State.stationBoundary kind taken s) := by
  have judged : PoolSound s.takeVerdict := h.of_view rfl
  cases taken with
  | initialising | offline => exact h
  | listening =>
    cases kind with
    | synthesized => exact h.of_view rfl
    | heard => simp only [State.stationBoundary]; split <;> exact h.of_view rfl
  | active =>
    simp only [State.stationBoundary]
    split
    · exact judged.of_view (poolView_enterMuted _)
    · exact judged
  | leaving =>
    simp only [State.stationBoundary]
    split
    · rw [silentReleaseAll_eq]
      exact (judged.of_view (poolView_releasedSilently _ _)).leaveEnds
    · exact judged.leaveIfDone
  | muted => simp only [State.stationBoundary]; split <;> exact h.of_view rfl

theorem PoolSound.boundary (kind : BoundaryKind) : PoolSound (State.boundary kind s) := by
  rw [boundary_eq]
  exact ((h.of_view (poolView_beforeStation s kind)).stationBoundary kind _).of_view (poolView_changing s _)

theorem PoolSound.boundaryWith (p : BoundaryKind → Bool) : PoolSound (State.boundaryWith p s) := by
  unfold State.boundaryWith
  split
  · split
    · exact h.boundary _
    · exact h
  · exact h

/-! ### The cycle -/

theorem PoolSound.recogniseBreak (rx : Option Stretch) : PoolSound (State.recogniseBreak rx s) := by
  unfold State.recogniseBreak
  split
  · have closed : PoolSound (State.settleMark (State.breakSegment rx s.cut)) := h.cut.of_view (by simp)
    exact closed.of_view rfl
  · exact h

theorem PoolSound.markTimerExpiry (run : Nat) (rx : Option Stretch) : PoolSound (State.markTimerExpiry run rx s) := by
  unfold State.markTimerExpiry
  split
  · have expired : PoolSound (State.expire run s) := h.of_view (poolView_expire s run)
    dsimp only
    split
    · split
      · exact expired.of_view (poolView_handBreak _)
      · exact expired.of_view (poolView_handBreak _)
      · exact (expired.of_view (poolView_noteReception _ rx)).boundary _
      · exact expired
    · exact expired.of_view rfl
  · exact h

omit h in
theorem poolView_loneStart (run : Nat) : poolView (State.loneStart run s) = poolView s := by
  unfold State.loneStart
  split
  · dsimp only
    split
    · exact poolView_loneStartReport _
    · rfl
  · rfl

theorem PoolSound.shortRunEnd (run : Nat) (stopBit : Bool) : PoolSound (State.shortRunEnd run stopBit s) := by
  unfold State.shortRunEnd
  split
  · exact h.settle.of_view (by simp [apply_ite poolView])
  · exact h

/-! ### Segment starts -/

theorem PoolSound.startSegment (g : Segment) (position : Nat) (rx : Option Stretch) :
    PoolSound (State.startSegment g position rx s) := by
  have closed : PoolSound (State.settleMark (State.closeSegment rx s.settle)) := h.settle.of_view (by simp)
  exact closed.of_view rfl

omit h in
/-- The attempts agree once a segment has started, whether the station is awake or rests. -/
theorem startSegment_attempts (agrees : AttemptsAgree s) (g : Segment) {position : Nat} (rx : Option Stretch)
    (reported : State.reportsStart position s = true) : AttemptsAgree (State.startSegment g position rx s) :=
  attempts_kept agrees (fun line => (startSegment_agrees line g rx reported).1) fun _ sleeps =>
    sleeps.startSegment g rx reported

/-- R91, R92: a stream launches a frame only while none of its frames is in flight, as no attempt is current. -/
theorem PoolSound.supply (agrees : AttemptsAgree s) (k : Slot) : PoolSound (State.supply k s) := by
  unfold State.supply
  split
  · next free =>
    have idle : s.line.transmit = .idle := by simp only [Bool.and_eq_true, beq_iff_eq] at free; exact free.2
    have landed (n : StreamNo) : s.streams[n].inFlight = none := by
      have flight := agrees.in_flight n
      rw [idle] at flight
      exact Option.isNone_iff_eq_none.mp (Option.isSome_eq_false_iff.mp flight)
    split
    · next n _ =>
      simp only [State.supplyFrame]
      split
      · exact h
      · split
        · next payload supplies =>
          have head : s.streams[n].queue.head? = some payload := by
            unfold Stream.nextPayload at supplies
            split at supplies
            · exact supplies
            · cases supplies
          exact (h.launch (landed n) head).of_view (poolView_handOver _ _)
        · exact h.of_view (poolView_handOver _ _)
    · exact h
  · exact h

theorem PoolSound.slotStart (agrees : AttemptsAgree s) (k : Slot) (rx : Option Stretch) :
    PoolSound (State.slotStart k rx s) := by
  unfold State.slotStart
  split
  · next reported =>
    have started := startSegment_attempts agrees (.slot k) rx reported
    have sound := h.startSegment (.slot k) (slotStartAt k) rx
    have begun : PoolSound (atSlotStart k rx s) ∧ AttemptsAgree (atSlotStart k rx s) :=
      ⟨sound.of_view rfl, attempts_of_view started rfl⟩
    exact begun.1.supply begun.2 k
  · exact h

theorem PoolSound.offer (w : WindowNo) : PoolSound (State.offer w s) := by
  have checked : PoolSound s.checkRecords := h.of_view (poolView_checkRecords s)
  unfold State.offer
  split
  · unfold State.offerFirst
    split
    · exact checked.of_view rfl
    · split
      · exact checked.of_view rfl
      · exact checked.leaveIfDone.of_view (poolView_offerClaim _ w)
  · exact h

theorem PoolSound.windowStart (w : WindowNo) (rx : Option Stretch) : PoolSound (State.windowStart w rx s) := by
  unfold State.windowStart
  split
  · have sound := h.startSegment (.window w) (windowStartAt w) rx
    have cleared : PoolSound (State.clearLostNote (State.startSegment (.window w) (windowStartAt w) rx s)) := sound.of_view rfl
    exact (cleared.offer w).of_view (poolView_changing s _)
  · exact h

theorem PoolSound.gapStart (rx : Option Stretch) : PoolSound (State.gapStart rx s) := by
  unfold State.gapStart
  split
  · exact h.startSegment _ _ rx
  · exact h

/-! ### Attempts -/

omit h in
theorem poolView_attemptStart (run : Nat) (rx : Option Stretch) : poolView (State.attemptStart run rx s) = poolView s := by
  unfold State.attemptStart
  split
  · split
    · exact poolView_drive _ _ _ _
    · rfl
  · rfl

omit h in
theorem poolView_arbitrationMismatch (bit : Nat) : poolView (State.arbitrationMismatch bit s) = poolView s := by
  unfold State.arbitrationMismatch
  split
  · split <;> rfl
  · rfl

theorem PoolSound.transmitFault (bit : Nat) : PoolSound (State.transmitFault bit s) := by
  have run : PoolSound (State.atRun 0 s) := h.of_view rfl
  unfold State.transmitFault
  split
  · next a _ =>
    split
    · exact (run.attemptFault a).of_view (by simp [State.dominantFault, apply_ite poolView])
    · exact h
  · exact run.settle
  · exact h

omit h in
theorem poolView_breakComplete : poolView s.breakComplete = poolView s := by
  unfold State.breakComplete; split <;> rfl

/-- R94, R110: in either order of the return and of the tap's request, the buffers add up. -/
theorem PoolSound.frameComplete (k : Slot) (f : SlotFrame) : PoolSound (State.frameComplete k f s) := by
  have heard : PoolSound (State.hearOwnFrame k s) := h.of_view (poolView_setMap s _)
  simp only [State.frameComplete]
  split
  · exact heard.tapTake f
  · refine PoolSound.of_view ?_ (poolView_countChoice _ _)
    split
    · exact (heard.dataComplete _).tapTake f
    · exact (heard.tapTake f).dataComplete _

theorem PoolSound.announcementComplete (a : Announcement) : PoolSound (State.announcementComplete a s) := by
  have landed : PoolSound (State.setOffer none s) := h.of_view rfl
  simp only [State.announcementComplete]
  split
  · exact landed.of_view (poolView_claimComplete _ _ _)
  · simp only [State.releaseComplete]
    refine PoolSound.leaveIfDone (landed.of_view ?_)
    rw [poolView_modifyStream _ _ (f := Stream.released a.slots) fun _ => rfl, poolView_dropRelease, poolView_changeMap]
  · exact landed.of_view rfl

theorem PoolSound.attemptComplete : PoolSound s.attemptComplete := by
  have ended : PoolSound (State.endFrame s.endAttempt) := h.of_view rfl
  unfold State.attemptComplete
  split
  · exact ended.of_view (poolView_takeMark _ _)
  · exact ended.frameComplete _ _
  · exact (ended.announcementComplete _).of_view (poolView_changing s _)
  · exact h

/-! ### Frames of other stations -/

theorem receiveWhole_sound {admits legal : Bool} {deliver : State → State}
    (delivers : ∀ u, PoolSound u → PoolSound (deliver u)) (offset : Nat) :
    PoolSound (State.receiveWhole admits offset legal deliver s) := by
  have settled : PoolSound (State.settle (State.atRun 0 s)) := PoolSound.settle (s := State.atRun 0 s) (h.of_view rfl)
  unfold State.receiveWhole
  split
  · dsimp only
    split
    · exact settled
    · exact settled.of_view (poolView_rxError _)
    · split
      · exact delivers _ (settled.of_view rfl)
      · exact settled.of_view (poolView_rxError _)
  · exact h

/-- R30, R32, R108: a slot frame of another station. -/
theorem slotFrameReceived_sound (offset : Nat) (f : SlotFrame) : PoolSound (State.slotFrameReceived offset f s) := by
  unfold State.slotFrameReceived
  split
  · next k _ =>
    refine PoolSound.of_view (receiveWhole_sound h (fun u hu => ?_) offset) (poolView_changing s _)
    unfold State.deliverFrame
    split
    · exact hu.clash
    · have learnt : poolView (State.learnFrame k f u) = poolView u := by simp [State.learnFrame]
      exact (hu.of_view learnt).tapTake f
  · exact h

/-- R40: an announcement of another station, which moves no frame unless it is a CLASH. -/
theorem announcementReceived_sound (offset : Nat) (a : Announcement) {apply : State → State}
    (view : ∀ u, poolView (apply u) = poolView u) : PoolSound (State.announcementReceived offset a apply s) := by
  refine PoolSound.of_view (receiveWhole_sound h (fun u hu => ?_) offset) (poolView_changing s _)
  unfold State.deliverAnnouncement
  split
  · exact hu.clash
  · exact hu.of_view (view u)

omit h in
theorem poolView_receiveError (heard : Stretch) : poolView (State.receiveError heard s) = poolView s := by
  unfold State.receiveError
  split
  · simp
  · rfl

end Events

/-! ### The step -/

/-- Every command that is carried out keeps buffers, queues and taps sound. -/
theorem exec_sound {c : Instr} {s t : State} (agrees : AttemptsAgree s) (h : PoolSound s) (moves : exec c s = .next t) :
    PoolSound t := by
  have clocked (bytes : List Byte) : PoolSound (State.clockBytes bytes s) := h.clockBytes bytes
  have named (p : BoundaryKind → Bool) : PoolSound (State.boundaryWith p s) := h.boundaryWith p
  cases c <;> cases moves
  case unknownRequest code bytes =>
    split
    · exact h
    · exact clocked _
  case pullCommit | readEventsCommit =>
    split
    · exact h.answerOut
    · exact h
  case selFalls => exact h.of_view (poolView_selFalls s)
  case selRises => exact h.selRises
  case pinReset => exact resetBlocks_sound _ _
  case pinResetRelease => exact h.of_view (poolView_pinResetRelease s)
  case initialisationEnd => exact h.of_view (poolView_initialisationEnd s)
  case breakRecognised rx => exact h.recogniseBreak rx
  case lineDominant => exact h.of_view (poolView_lineHeld s)
  case heardBoundary =>
    split
    · exact h.boundary _
    · exact h
  case markTimerExpiry run rx => exact h.markTimerExpiry run rx
  case loneStart run => exact h.of_view (poolView_loneStart run)
  case shortRunEnd run stopBit => exact h.shortRunEnd run stopBit
  case slotStart k rx => exact h.slotStart agrees k rx
  case windowStart w rx => exact h.windowStart w rx
  case gapStart rx => exact h.gapStart rx
  case attemptStart run rx => exact h.of_view (poolView_attemptStart run rx)
  case arbitrationMismatch bit => exact h.of_view (poolView_arbitrationMismatch bit)
  case transmitFault bit => exact h.transmitFault bit
  case breakAttemptComplete => exact h.of_view poolView_breakComplete
  case attemptComplete => exact h.attemptComplete
  case markReceived offset sender =>
    exact receiveWhole_sound h (fun u hu => hu.of_view (poolView_takeMark u sender)) offset
  case slotFrameReceived offset f => exact slotFrameReceived_sound h offset f
  case claimReceived offset sender n slots =>
    exact announcementReceived_sound h offset _ fun u => by rw [State.hearClaim, poolView_changeMap, poolView_claimOnOwn]
  case releaseReceived offset sender n slots =>
    exact announcementReceived_sound h offset _ fun u => poolView_changeMap u _
  case objectReceived offset sender n k aux =>
    exact announcementReceived_sound h offset _ fun u => by rw [State.hearObject, poolView_reportLoss, poolView_changeMap]
  case receiveError offset bits => exact h.of_view (poolView_receiveError _)
  case lapse | confirmed | quarantineEnd | backoffEnd | stalled | closeLimit | faultThreshold | mutePeriodEnd | join =>
    exact named _
  all_goals exact clocked _

/-- Settles O58: command by command, with the frames that each moves. -/
theorem stepsKeepBuffers : Obligations.StepsKeepBuffers := by
  intro s t agrees total queues taps moves
  have sound : PoolSound s := ⟨total, queues, taps⟩
  have kept : PoolSound t := by
    unfold step at moves
    split at moves
    · cases moves; exact sound
    · next c rest _ =>
      exact exec_sound (attempts_of_view (t := { s with pending := rest }) agrees rfl) (sound.of_view rfl) moves
  exact ⟨kept.total, kept.queues, kept.taps⟩

end Sys2Proof.Proofs
end

section
/-! SUPPORT. The requests on one stream or one tap: what the port makes of a request that its block takes or refuses, the
numbers that the arguments may hold, and the statements on SUSPEND_STREAM, RESUME_STREAM, OPEN_STREAM, PUSH, FLUSH and
TAP_OFF. -/

namespace Sys2Proof.Proofs

open Sys2Proof Sys2Proof.Machine Sys2Proof.Safety

/-! ### Answers -/

/-- R174, R175: the count and the arguments make a whole request of this row of the table. -/
structure RequestFits (row : RequestRow) (code n : Byte) (args : List Byte) : Prop where
  found  : requestRow code = some row
  length : args.length = n.toNat
  few    : n.toNat ≤ 40
  needed : row.needs n.toNat = true

section Answers
variable {s : State} {code n : Byte} {args : List Byte} {row : RequestRow} (takes : TakesRequests s)
  (fits : RequestFits row code n args)
include takes fits

/-- R175, R176: a request that its block refuses is answered with the status alone. -/
theorem request_refused {status : Status} (some : status ≠ .done)
    (refuses : row.take args (atTaking s code n args) = refuse status (atTaking s code n args)) :
    (.next (State.clockBytes (code :: n :: args) s) : Host.Outcome State Fault Refusal) =
      .next (answeredOnly s code n args status.value) := by
  rw [request_complete takes fits.found fits.length fits.few fits.needed, refuses, present_refuse some]

/-- R175, R176: a request that its block takes without response data is answered DONE, with the block's effect. -/
theorem request_taken {u : State} (accepts : row.take args (atTaking s code n args) = taken u)
    (port : u.port = (atTaking s code n args).port) :
    (.next (State.clockBytes (code :: n :: args) s) : Host.Outcome State Fault Refusal) =
      .next { u with port := answeredPort s code n args [1] } := by
  rw [request_complete takes fits.found fits.length fits.few fits.needed, accepts, present_taken, port]
  rfl

end Answers

/-! ### Arguments -/

theorem byteOf_toNat {k : Nat} (small : k < 256) : (byteOf k).toNat = k := by
  rw [byteOf, BitVec.toNat_ofNat]; omega

theorem streamArg_byteOf (n : StreamNo) : streamArg (byteOf n) = some n := by
  simp [streamArg, byteOf_toNat (show n.val < 256 by omega)]

theorem tapArg_byteOf (u : TapNo) : tapArg (byteOf u) = some u := by
  simp [tapArg, byteOf_toNat (show u.val < 256 by omega)]

theorem openStreamArgs_eq {w : Byte} (low : 1 ≤ w.toNat) (high : w.toNat ≤ 8) (n : StreamNo) :
    openStreamArgs [byteOf n, w] = some (n, w.toNat) := by
  simp [openStreamArgs, streamArg_byteOf, rangeArg, low, high]

theorem pushArgs_byteOf (n : StreamNo) (payload : List Byte) : pushArgs (byteOf n :: payload) = some (n, payload) := by
  simp [pushArgs, streamArg_byteOf]

theorem tapArgs_byteOf (u : TapNo) : tapArgs [byteOf u] = some u := tapArg_byteOf u

/-- R82: the check of the send queue, in the words of the statements. -/
theorem full_iff (st : Stream) : st.full = true ↔ SendQueueFull st := by
  unfold Stream.full SendQueueFull
  cases st.inFlight <;> simp

/-! ### SUSPEND_STREAM and RESUME_STREAM (R81) -/

section Suspended
variable {u : State} {n : StreamNo} (value : Bool)

theorem takeSuspended_open (isOpen : StreamIsOpen u.streams[n]) : takeSuspended value [byteOf n] u =
    taken { u with streams := u.streams.set n { u.streams[n] with suspended := value } } := by
  have opened : u.streams[n].isOpen = true := (isOpen_iff _).mpr isOpen
  rw [takeSuspended, streamArgs_byteOf]
  dsimp only
  rw [if_neg (by rw [opened]; nofun)]
  rfl

theorem takeSuspended_shut (shut : ¬ StreamIsOpen u.streams[n]) :
    takeSuspended value [byteOf n] u = refuse .wrongState u := by
  have closed : u.streams[n].isOpen = false := Bool.not_eq_true _ ▸ mt (isOpen_iff _).mp shut
  rw [takeSuspended, streamArgs_byteOf]
  dsimp only
  rw [if_pos (by rw [closed]; rfl)]

end Suspended

/-- R81: both requests, by the value that they write. -/
theorem suspended_request {s : State} {code : Byte} (value : Bool) (n : StreamNo) (takes : TakesRequests s)
    (fits : RequestFits { code := code, needs := (· == 1), take := takeSuspended value } code 1 [byteOf n]) :
    (StreamIsOpen s.streams[n] →
      (.next (State.clockBytes [code, 1, byteOf n] s) : Host.Outcome State Fault Refusal) = .next { s with
        streams := s.streams.set n { s.streams[n] with suspended := value }
        port := answeredPort s code 1 [byteOf n] [1] }) ∧
    (¬ StreamIsOpen s.streams[n] →
      (.next (State.clockBytes [code, 1, byteOf n] s) : Host.Outcome State Fault Refusal) =
        .next (answeredOnly s code 1 [byteOf n] 2)) :=
  ⟨fun isOpen => request_taken takes fits (takeSuspended_open (u := atTaking s code 1 [byteOf n]) value isOpen) rfl,
    fun shut => request_refused takes fits (status := .wrongState) (by decide)
      (takeSuspended_shut (u := atTaking s code 1 [byteOf n]) value shut)⟩

/-- Settles O9: by the state of the stream, the same for both requests. -/
theorem suspendAndResume : Obligations.SuspendAndResume := by
  intro s n takes
  obtain ⟨suspends, unsuspended⟩ := suspended_request (code := 34) true n takes ⟨rfl, rfl, by decide, rfl⟩
  obtain ⟨resumes, unresumed⟩ := suspended_request (code := 35) false n takes ⟨rfl, rfl, by decide, rfl⟩
  exact ⟨fun isOpen => ⟨suspends isOpen, resumes isOpen⟩, fun shut => ⟨unsuspended shut, unresumed shut⟩⟩

/-! ### OPEN_STREAM (R79) -/

/-- Settles O7: by the two checks of the request; the stream that opens is the one that has changed. -/
theorem openStreamBeginsClaiming : Obligations.OpenStreamBeginsClaiming := by
  intro s n w takes low high
  have wanted := openStreamArgs_eq low high n
  have fits : RequestFits { code := 32, needs := (· == 2), take := takeOpenStream } 32 2 [byteOf n, w] :=
    ⟨rfl, rfl, by decide, rfl⟩
  let u := atTaking s 32 2 [byteOf n, w]
  let opened := State.modifyStream n (Stream.opening w.toNat s.setup.attemptReload) u
  refine ⟨fun shut stays => ?_, fun refuses => ?_⟩
  · have accepts : takeOpenStream [byteOf n, w] u = taken (State.noteChanges u opened) := by
      rw [takeOpenStream, wanted]
      exact if_neg fun refuses => refuses.elim (absurd shut) stays
    have moves : (s.streams[n].opening w.toNat s.setup.attemptReload).state ≠ s.streams[n].state := by
      rw [shut]; nofun
    have latches : Latches s (State.noteChanges u opened) (oneFlag (.change n)) :=
      latches_change (u := u) (t := opened) rfl rfl moves
    exact ⟨_, request_taken takes fits accepts rfl, rfl, latches_of_latch latches rfl⟩
  · refine request_refused takes fits (status := .wrongState) (by decide) ?_
    show takeOpenStream _ _ = _
    rw [takeOpenStream, wanted]
    exact if_pos refuses

/-! ### PUSH (R82, R121) -/

/-- R174, R183: PUSH with a payload of up to 32 bytes. -/
theorem push_fits (x : Byte) {payload : List Byte} (short : payload.length ≤ 32) :
    RequestFits { code := 36, needs := fun n => 1 ≤ n && n ≤ 33, take := takePush } 36 (byteOf (1 + payload.length))
      (x :: payload) := by
  have size : (byteOf (1 + payload.length)).toNat = 1 + payload.length := byteOf_toNat (by omega)
  refine ⟨rfl, ?_, ?_, ?_⟩
  · rw [size, List.length_cons, Nat.add_comm]
  · omega
  · simp only [size, Bool.and_eq_true, decide_eq_true_eq]; omega

/-- Settles O10: the three checks of the request in their order, and then its effect. -/
theorem pushChecksInOrder : Obligations.PushChecksInOrder := by
  intro s n payload takes short count refused
  have fits := push_fits (byteOf n) short
  let u := atTaking s 36 count (byteOf n :: payload)
  have opens (isOpen : StreamIsOpen s.streams[n]) : ¬ (!s.streams[n].isOpen) = true := by
    rw [(isOpen_iff _).mpr isOpen]; nofun
  have push : takePush (byteOf n :: payload) u =
      if !s.streams[n].isOpen then refuse .wrongState u
      else if s.streams[n].full then refuse .queueFull u
      else if s.freeBuffers ≤ s.setup.receiveReserve then refuse .noBuffer u
      else taken (State.takeBuffer (State.modifyStream n (fun st => { st with queue := st.queue ++ [payload] }) u)) := by
    rw [takePush, pushArgs_byteOf]; rfl
  refine ⟨fun shut => ?_, fun isOpen full => ?_, fun isOpen room none => ?_, fun isOpen room free => ?_⟩
  · rw [if_pos (by simpa using mt (isOpen_iff _).mp shut)] at push
    exact request_refused takes fits (by decide) push
  · rw [if_neg (opens isOpen), if_pos ((full_iff _).mpr full)] at push
    exact request_refused takes fits (by decide) push
  · rw [if_neg (opens isOpen), if_neg (mt (full_iff _).mp room), if_pos none] at push
    exact request_refused takes fits (by decide) push
  · rw [if_neg (opens isOpen), if_neg (mt (full_iff _).mp room), if_neg (by omega)] at push
    exact request_taken takes fits push rfl

/-! ### FLUSH (R83) and TAP_OFF (R105) -/

section Discards
variable {u : State}

theorem takeFlush_eq {n : StreamNo} (awake : u.streams[n].state ≠ .closed) : takeFlush [byteOf n] u = taken { u with
    streams := u.streams.set n (flushedStream u.streams[n])
    freeBuffers := u.freeBuffers + u.streams[n].queue.length } := by
  rw [takeFlush, streamArgs_byteOf]
  dsimp only
  rw [if_neg awake, flush_eq]

theorem takeFlush_closed {n : StreamNo} (closed : u.streams[n].state = .closed) :
    takeFlush [byteOf n] u = refuse .wrongState u := by
  rw [takeFlush, streamArgs_byteOf]
  exact if_pos closed

theorem takeTapOff_on {v : TapNo} (on : u.taps[v].state ≠ .off) : takeTapOff [byteOf v] u = taken (State.turnOff v u) := by
  rw [takeTapOff, tapArgs_byteOf]
  exact if_neg on

theorem takeTapOff_off {v : TapNo} (off : u.taps[v].state = .off) : takeTapOff [byteOf v] u = refuse .wrongState u := by
  rw [takeTapOff, tapArgs_byteOf]
  exact if_pos off

end Discards

/-- Settles O11: by the one check of each request. -/
theorem flushAndTapOffReturnBuffers : Obligations.FlushAndTapOffReturnBuffers := by
  refine ⟨fun s n takes => ?_, fun s v takes => ?_⟩
  · have fits : RequestFits { code := 37, needs := (· == 1), take := takeFlush } 37 1 [byteOf n] :=
      ⟨rfl, rfl, by decide, rfl⟩
    let u := atTaking s 37 1 [byteOf n]
    exact ⟨fun awake => request_taken takes fits (takeFlush_eq (u := u) awake) rfl,
      fun closed => request_refused takes fits (by decide) (takeFlush_closed (u := u) closed)⟩
  · have fits : RequestFits { code := 49, needs := (· == 1), take := takeTapOff } 49 1 [byteOf v] :=
      ⟨rfl, rfl, by decide, rfl⟩
    let u := atTaking s 49 1 [byteOf v]
    exact ⟨fun on => request_taken takes fits (takeTapOff_on (u := u) on) rfl,
      fun off => request_refused takes fits (by decide) (takeTapOff_off (u := u) off)⟩

end Sys2Proof.Proofs
end

section
/-! SUPPORT. Arguments out of range, and the statement that the requests which name them are refused. -/

namespace Sys2Proof.Proofs

open Sys2Proof Sys2Proof.Machine Sys2Proof.Safety

/-! ### Ranges -/

theorem streamArg_none {x : Byte} (high : 8 ≤ x.toNat) : streamArg x = none := dif_neg (by omega)

theorem tapArg_none {x : Byte} (high : 12 ≤ x.toNat) : tapArg x = none := dif_neg (by omega)

theorem streamArg_lt {x : Byte} {n : StreamNo} (found : streamArg x = some n) : x.toNat < 8 := by
  by_contra high
  exact nomatch (streamArg_none (by omega)).symm.trans found

theorem tapArg_lt {x : Byte} {u : TapNo} (found : tapArg x = some u) : x.toNat < 12 := by
  by_contra high
  exact nomatch (tapArg_none (by omega)).symm.trans found

theorem addressArg_eq {x : Byte} {a : Nat} (found : addressArg x = some a) : a = x.toNat := by
  simp only [addressArg, Option.ite_none_right_eq_some, Option.some.injEq] at found
  exact found.2.symm

theorem policyArg_le {x : Byte} {p : OverflowPolicy} (found : policyArg x = some p) : x.toNat ≤ 1 := by
  unfold policyArg at found
  split at found
  · next zero => rw [zero]; decide
  · split at found
    · next one => rw [one]; decide
    · cases found

/-- R79: a wanted count outside 1 to 8. -/
theorem openStreamArgs_none {w : Byte} (outside : w.toNat = 0 ∨ 8 < w.toNat) (x : Byte) : openStreamArgs [x, w] = none := by
  have range : rangeArg 1 8 w = none := if_neg (by omega)
  simp [openStreamArgs, range]

/-- R104: the arguments that TAP_ON takes. -/
theorem tapOnArgs_inRange {t a n p : Byte} {r : TapNo × Nat × StreamNo × OverflowPolicy}
    (found : tapOnArgs [t, a, n, p] = some r) :
    t.toNat < 12 ∧ (1 ≤ a.toNat ∧ a.toNat ≤ 62) ∧ n.toNat < 8 ∧ p.toNat ≤ 1 := by
  simp only [tapOnArgs, Option.bind_eq_bind, Option.bind_eq_some_iff] at found
  obtain ⟨tap, isTap, source, isSource, stream, isStream, policy, isPolicy, -⟩ := found
  have address := addressArg_bounds isSource
  rw [addressArg_eq isSource] at address
  exact ⟨tapArg_lt isTap, address, streamArg_lt isStream, policyArg_le isPolicy⟩

/-! ### The requests that name a stream or a tap -/

/-- R78, R175: a request whose arguments its block does not take. -/
theorem request_badArgument {s : State} {row : RequestRow} {code n : Byte} {args : List Byte} (takes : TakesRequests s)
    (fits : RequestFits row code n args) (refuses : ∀ u, row.take args u = refuse .badArgument u) :
    (.next (State.clockBytes (code :: n :: args) s) : Host.Outcome State Fault Refusal) =
      .next (answeredOnly s code n args 3) :=
  request_refused takes fits (status := .badArgument) (by decide) (refuses _)

section Named
variable {s : State} (takes : TakesRequests s) {x : Byte}
include takes

/-- R78, R101: a request that has a stream number above 7 as its one argument. -/
theorem stream_badArgument {code : Byte} {take : List Byte → State → Reply} (high : 8 ≤ x.toNat)
    (found : requestRow code = some { code := code, needs := (· == 1), take := take })
    (reads : ∀ u, streamArgs [x] = none → take [x] u = refuse .badArgument u) :
    (.next (State.clockBytes [code, 1, x] s) : Host.Outcome State Fault Refusal) =
      .next (answeredOnly s code 1 [x] 3) :=
  request_badArgument takes ⟨found, rfl, by decide, rfl⟩ fun u => reads u (streamArg_none high)

/-- R105, R106, R117: a request that has a tap number above 11 as its one argument. -/
theorem tap_badArgument {code : Byte} {take : List Byte → State → Reply} (high : 12 ≤ x.toNat)
    (found : requestRow code = some { code := code, needs := (· == 1), take := take })
    (reads : ∀ u, tapArgs [x] = none → take [x] u = refuse .badArgument u) :
    (.next (State.clockBytes [code, 1, x] s) : Host.Outcome State Fault Refusal) =
      .next (answeredOnly s code 1 [x] 3) :=
  request_badArgument takes ⟨found, rfl, by decide, rfl⟩ fun u => reads u (tapArg_none high)

/-- R79: OPEN_STREAM with arguments that are none. -/
theorem openStream_badArgument {w : Byte} (none : openStreamArgs [x, w] = none) :
    exec (.openStream [2, x, w]) s = .next (answeredOnly s 32 2 [x, w] 3) :=
  request_badArgument (row := { code := 32, needs := (· == 2), take := takeOpenStream }) takes ⟨rfl, rfl, by decide, rfl⟩
    fun u => by simp only [takeOpenStream, none]

end Named

/-- Settles O13: every request reads its arguments first. -/
theorem numbersOutOfRangeRefused : Obligations.NumbersOutOfRangeRefused := by
  intro s x w payload takes short
  refine ⟨fun high => ?_, fun high => ?_, fun n outside => ?_, fun t a n p outside => ?_⟩
  · have none : streamArg x = .none := streamArg_none high
    refine ⟨openStream_badArgument takes (by simp [openStreamArgs, none]), ?_, ?_, ?_, ?_, ?_, ?_⟩
    · exact stream_badArgument takes (take := takeCloseStream) high rfl fun u none => by rw [takeCloseStream, none]
    · exact stream_badArgument takes (take := takeSuspended true) high rfl fun u none => by rw [takeSuspended, none]
    · exact stream_badArgument takes (take := takeSuspended false) high rfl fun u none => by rw [takeSuspended, none]
    · exact request_badArgument takes (push_fits x short) fun u => by simp [takePush, pushArgs, none]
    · exact stream_badArgument takes (take := takeFlush) high rfl fun u none => by rw [takeFlush, none]
    · exact stream_badArgument takes (take := takeReadStream) high rfl fun u none => by rw [takeReadStream, none]
  · refine ⟨?_, ?_, ?_⟩
    · exact tap_badArgument takes (take := takeTapOff) high rfl fun u none => by rw [takeTapOff, none]
    · exact tap_badArgument takes (take := takePull) high rfl fun u none => by rw [takePull, none]
    · exact tap_badArgument takes (take := takeReadTap) high rfl fun u none => by rw [takeReadTap, none]
  · exact openStream_badArgument takes (openStreamArgs_none outside _)
  · have none : tapOnArgs [t, a, n, p] = .none := by
      by_contra found
      obtain ⟨r, some⟩ := Option.ne_none_iff_exists'.mp found
      obtain ⟨tap, ⟨low, high⟩, stream, policy⟩ := tapOnArgs_inRange some
      omega
    exact request_badArgument (row := { code := 48, needs := (· == 4), take := takeTapOn }) takes
      ⟨rfl, rfl, by decide, rfl⟩ fun u => by simp only [takeTapOn, none]

end Sys2Proof.Proofs
end

section
/-! SUPPORT. TAP_ON and PULL, the commit of a PULL, and the rise of SEL that abandons a commit: what each makes of the taps. -/

namespace Sys2Proof.Proofs

open Sys2Proof Sys2Proof.Machine Sys2Proof.Safety

/-! ### Answers with response data -/

/-- R175, R176: a request that its block takes with response data is answered DONE and the data, with the block's effect; of
the port the block may write the commit that is owed. -/
theorem request_answered {s u : State} {code n : Byte} {args data : List Byte} {row : RequestRow} (takes : TakesRequests s)
    (fits : RequestFits row code n args) (accepts : row.take args (atTaking s code n args) = answerWith data u)
    (port : u.port = { (atTaking s code n args).port with owes := u.port.owes }) :
    (.next (State.clockBytes (code :: n :: args) s) : Host.Outcome State Fault Refusal) =
      .next { u with port := { answeredPort s code n args (1 :: data) with owes := u.port.owes } } := by
  rw [request_complete takes fits.found fits.length fits.few fits.needed, accepts, present, answerWith]
  dsimp only
  rw [port]
  rfl

/-! ### TAP_ON (R104) -/

/-- R104: the policies and the arguments that stand for them. -/
theorem policyArg_eq {p : Byte} {policy : OverflowPolicy}
    (named : (p, policy) ∈ [((0 : Byte), OverflowPolicy.keepOldest), (1, .keepNewest)]) : policyArg p = some policy := by
  simp only [List.mem_cons, Prod.mk.injEq, List.not_mem_nil, or_false] at named
  obtain ⟨rfl, rfl⟩ | ⟨rfl, rfl⟩ := named <;> rfl

theorem tapOnArgs_eq {a p : Byte} {policy : OverflowPolicy} (low : 1 ≤ a.toNat) (high : a.toNat ≤ 62)
    (named : policyArg p = some policy) (u : TapNo) (n : StreamNo) :
    tapOnArgs [byteOf u, a, byteOf n, p] = some (u, a.toNat, n, policy) := by
  simp [tapOnArgs, tapArg_byteOf, streamArg_byteOf, addressArg, addressFits, named, low, high]

/-- R102, R104: the check for a duplicate, in the words of the statements. -/
theorem tapFor_isSome_iff (s : State) (a : Nat) (n : StreamNo) :
    (s.tapFor (a, n)).isSome = true ↔ ∃ u : TapNo, TapFollows s u a n := by
  cases found : s.tapFor (a, n) with
  | none => simpa using tapFor_eq_none found
  | some u => simpa using ⟨u, tapFor_eq_some found⟩

/-- Settles O12: the two checks of the request in their order, and then its effect. -/
theorem tapOnChecksInOrder : Obligations.TapOnChecksInOrder := by
  intro s t a n p policy takes low high named args followed
  have fits : RequestFits { code := 48, needs := (· == 4), take := takeTapOn } 48 4 args := ⟨rfl, rfl, by decide, rfl⟩
  let u := atTaking s 48 4 args
  have tapOn : takeTapOn args u =
      if s.taps[t].state ≠ .off then refuse .wrongState u
      else if (u.tapFor (a.toNat, n)).isSome then refuse .duplicate u
      else taken (State.modifyTap t (Tap.turnedOn a.toNat n policy) u) := by
    rw [takeTapOn, tapOnArgs_eq low high (policyArg_eq named)]; rfl
  have duplicate : (u.tapFor (a.toNat, n)).isSome = true ↔ followed := tapFor_isSome_iff u a.toNat n
  refine ⟨fun on => ?_, fun off busy => ?_, fun off free => ?_⟩
  · rw [if_pos on] at tapOn
    exact request_refused takes fits (by decide) tapOn
  · rw [if_neg (not_not_intro off), if_pos (duplicate.mpr busy)] at tapOn
    exact request_refused takes fits (by decide) tapOn
  · rw [if_neg (not_not_intro off), if_neg (mt duplicate.mp free)] at tapOn
    exact request_taken takes fits tapOn rfl

/-! ### PULL (R106) -/

section Pull
variable {u : State} {t : TapNo}

theorem takePull_off (off : u.taps[t].state = .off) : takePull [byteOf t] u = refuse .wrongState u := by
  rw [takePull, tapArgs_byteOf]
  exact if_pos off

theorem takePull_empty (on : u.taps[t].state ≠ .off) (empty : u.taps[t].queue = []) :
    takePull [byteOf t] u = refuse .empty u := by
  rw [takePull, tapArgs_byteOf]
  dsimp only
  rw [if_neg on, empty]

theorem takePull_head {f : RxFrame} {rest : List RxFrame} (on : u.taps[t].state ≠ .off)
    (queue : u.taps[t].queue = f :: rest) : takePull [byteOf t] u = answerWith f.record (State.markHead t u) := by
  rw [takePull, tapArgs_byteOf]
  dsimp only
  rw [if_neg on, queue]

end Pull

/-- Settles O14: by the state of the tap, and then by its queue. -/
theorem pullMarksHead : Obligations.PullMarksHead := by
  intro s t takes
  have fits : RequestFits { code := 50, needs := (· == 1), take := takePull } 50 1 [byteOf t] := ⟨rfl, rfl, by decide, rfl⟩
  let u := atTaking s 50 1 [byteOf t]
  exact ⟨fun off => request_refused takes fits (by decide) (takePull_off (u := u) off),
    fun on empty => request_refused takes fits (by decide) (takePull_empty (u := u) on empty),
    fun f rest on queue => request_answered takes fits (takePull_head (u := u) on queue) rfl⟩

/-! ### The commit of a PULL (R107) -/

theorem commitPull_marked {s : State} {t : TapNo} {f : RxFrame} {rest : List RxFrame} (marked : s.taps[t].pullMark = true)
    (queue : s.taps[t].queue = f :: rest) : State.commitPull t s = { s with
      taps := s.taps.set t { s.taps[t] with queue := rest, pullMark := false }
      freeBuffers := s.freeBuffers + 1 } := by
  rw [State.commitPull, if_pos (by rw [marked, queue]; rfl)]
  simp only [State.returnBuffers, State.modifyTap, queue, List.tail_cons]

/-- R107, R112: the marked frame has left the queue, and its mark with it. -/
theorem commitPull_unmarked {s : State} {t : TapNo} (unmarked : s.taps[t].pullMark = false) :
    State.commitPull t s = s := by
  have same : { s.taps[t] with pullMark := false } = s.taps[t] := by rw [← unmarked]
  rw [State.commitPull, if_neg (by rw [unmarked]; nofun), State.modifyTap, same]
  exact congrArg (fun taps => { s with taps := taps }) (Vector.set_getElem_self _)

/-- R107, R176: PULL_COMMIT in a state that owes the commit of a PULL: the commit is made and the rest of the answer is out. -/
theorem exec_pullCommit {s : State} {t : TapNo} (owes : s.port.owes = some (.pull t)) :
    exec .pullCommit s = .next { State.commitPull t s with port := { s.port with
      phase := .filler, answered := s.port.answer.length, owes := none
      shifted := s.port.shifted ++ s.port.answer.drop s.port.answered } } := by
  have port : (State.commitPull t s).port = s.port := by unfold State.commitPull; split <;> rfl
  show execPullCommit s = _
  simp only [execPullCommit, owes, State.answerOut, State.commitOwed, State.modifyPort, port]

/-- Settles O15: by the pull mark of the tap. -/
theorem pullCommitRemovesMarked : Obligations.PullCommitRemovesMarked := by
  intro s t owes out
  refine ⟨fun f rest marked queue => ?_, fun unmarked => ?_⟩
  · rw [exec_pullCommit owes, commitPull_marked marked queue]
  · rw [exec_pullCommit owes, commitPull_unmarked unmarked]

/-! ### SEL rises (R172, R178) -/

/-- R172, R178: SEL rises with no SOFT_RESET pending. -/
theorem exec_selRises {s : State} (low : s.pins.selLow = true) (kept : s.port.pendingReset = false) :
    exec .selRises s = .next { (State.setSel false s).abandonCommit with port := .reset } := by
  have awaits : ¬ (State.setSel false s).port.pendingReset = true := by
    show ¬ s.port.pendingReset = true
    rw [kept]; nofun
  show Host.Outcome.next s.selRises = _
  rw [State.selRises, if_pos low]
  exact congrArg Host.Outcome.next (if_neg awaits)

theorem abandonCommit_pins (s : State) : s.abandonCommit.pins = s.pins := by
  unfold State.abandonCommit
  split <;> rfl

/-- Settles O16: by the commit that is owed. -/
theorem selRisesAbandons : Obligations.SelRisesAbandons := by
  intro s low kept up
  have rises := exec_selRises low kept
  have owed : (State.setSel false s).port.owes = s.port.owes := rfl
  refine ⟨fun owes => ?_, fun t owes => ?_, fun owes => ?_, _, rises, ?_⟩
  · rw [rises, State.abandonCommit, owed, owes]; rfl
  · rw [rises, State.abandonCommit, owed, owes]; rfl
  · rw [rises, State.abandonCommit, owed, owes]; rfl
  · rw [State.sdo, abandonCommit_pins]; rfl

end Sys2Proof.Proofs
end

section
/-! SUPPORT. The course of an attempt: the first bit time, a recessive bit read back dominant, and the end of the own
break. -/

namespace Sys2Proof.Proofs

open Sys2Proof Sys2Proof.Machine Sys2Proof.Safety

/-! ### The first bit time (R127, R129, R131, R138) -/

/-- R138: a character begins in an OPEN segment. -/
theorem beginCharacter_opened (r : Reception) {s : State}
    (opened : s.line.receiver = true ∧ s.line.segment ≠ .outside ∧ s.line.condition = .opened) :
    State.beginCharacter r s = { s with line := { s.line with condition := .receiving, assembly := some r } } := by
  obtain ⟨on, inside, condition⟩ := opened
  rw [State.beginCharacter, if_pos (by simp [on, inside]), condition]

/-- R138: a character that is no first one of its segment begins nothing, where no frame has ended there. -/
theorem beginCharacter_unopened (r : Reception) {s : State} (unended : s.line.condition ≠ .ended)
    (unopened : ¬ (s.line.receiver = true ∧ s.line.segment ≠ .outside ∧ s.line.condition = .opened)) :
    State.beginCharacter r s = s := by
  unfold State.beginCharacter
  split
  next live =>
    split
    next condition =>
      have ⟨on, inside⟩ : s.line.receiver = true ∧ s.line.segment ≠ .outside := by simpa using live
      exact absurd ⟨on, inside, condition⟩ unopened
    next condition => exact absurd condition unended
    next => rfl
  next => rfl

/-- R138: a frame that the line shows is under assembly, where the segment is OPEN or RECEIVING. -/
theorem noteReception_heard {rx : Option Stretch} {s : State} (unended : s.line.condition ≠ .ended)
    (heard : begun rx ≠ none ∧
      ((s.line.receiver = true ∧ s.line.segment ≠ .outside ∧ s.line.condition = .opened) ∨ s.line.condition = .receiving)) :
    State.noteReception rx s = { s with line := { s.line with condition := .receiving, assembly := begun rx } } := by
  rw [noteReception_spec rx unended, if_pos heard, if_pos heard]

theorem noteReception_unheard {rx : Option Stretch} {s : State} (unended : s.line.condition ≠ .ended)
    (unheard : ¬ (begun rx ≠ none ∧
      ((s.line.receiver = true ∧ s.line.segment ≠ .outside ∧ s.line.condition = .opened) ∨ s.line.condition = .receiving))) :
    State.noteReception rx s = s := by
  rw [noteReception_spec rx unended, if_neg unheard, if_neg unheard]

/-- R127, R129, R131: what the first bit makes of a segment in which no frame has ended.  A frame that is heard there is
under assembly already, so the own bit begins a character only where the segment is still OPEN. -/
theorem drive_eq (run : Nat) (rx : Option Stretch) (a : Attempt) {s : State} (unended : s.line.condition ≠ .ended) :
    let opened := s.line.receiver = true ∧ s.line.segment ≠ .outside ∧ s.line.condition = .opened
    let heard := begun rx ≠ none ∧ (opened ∨ s.line.condition = .receiving)
    State.drive run rx a s = { s with
      timer := { s.timer with position := s.timer.position.map (max a.firstPosition) }
      line := { s.line with
        transmit := .driving a, txd := .dominant, dominantRun := run
        condition := if heard ∨ (opened ∧ run = 0) then .receiving else s.line.condition
        assembly :=
          if heard then begun rx
          else if opened ∧ run = 0 then some { offset := a.firstBit, chars := [] }
          else s.line.assembly } } := by
  intro opened heard
  by_cases hears : heard
  · have noted := noteReception_heard (s := State.atRun run s) unended hears
    have receives : heard ∨ (opened ∧ run = 0) := .inl hears
    rw [State.drive, noted, if_pos hears, if_pos receives]
    exact ite_eq_right_iff.mpr fun _ => beginCharacter_unopened _ (by nofun) (by rintro ⟨_, _, ⟨⟩⟩)
  · have noted := noteReception_unheard (s := State.atRun run s) unended hears
    rw [State.drive, noted, if_neg hears]
    by_cases begins : opened ∧ run = 0
    · have receives : heard ∨ (opened ∧ run = 0) := .inr begins
      rw [if_pos begins, if_pos receives, if_pos begins.2]
      exact beginCharacter_opened _ begins.1
    · rw [if_neg begins, if_neg (not_or.mpr ⟨hears, begins⟩)]
      exact ite_eq_right_iff.mpr fun silent => beginCharacter_unopened _ unended fun isOpen => begins ⟨isOpen, silent⟩

/-! ### A mismatch and the end of the own break (R129, R132, R134) -/

/-- R129: the dominant run at a mismatch, counted from the first bit on. -/
theorem runAtMismatch_eq (s : State) (a : Attempt) (bit : Nat) :
    let own := ((a.bits.take bit).reverse.takeWhile fun b => !b).length
    s.runAtMismatch a bit = (if own = bit then s.line.dominantRun else 0) + own + 1 := by
  intro own
  show 1 + own + (if own = bit then s.line.dominantRun else 0) = _
  omega

/-- R132: ARBITRATION_MISMATCH at a bit that was sent recessive. -/
theorem arbitrationMismatch_recessive {s : State} {a : Attempt} {bit : Nat} (driving : s.line.transmit = .driving a)
    (recessive : a.bits[bit]? = some true) :
    let own := ((a.bits.take bit).reverse.takeWhile fun b => !b).length
    State.arbitrationMismatch bit s = { s with
      timer := { s.timer with position := s.timer.position.map (max (a.firstPosition + bit + 1)) }
      line := { s.line with
        transmit := .settling a (if bit < 10 then .lost else .fault), txd := .recessive
        dominantRun := (if own = bit then s.line.dominantRun else 0) + own + 1
        assembly := s.line.assembly.map fun r =>
          if r.offset = a.firstBit then { r with chars := a.chars.take (bit / 10) } else r } } := by
  simp only [State.arbitrationMismatch, driving, recessive, if_true, runAtMismatch_eq, assembled_eq]
  rfl

/-- Settles O44: the first bit by what is heard before it, the mismatch by the level that was sent. -/
theorem attemptCourse : Obligations.AttemptCourse := by
  refine ⟨fun s a run rx waiting => ⟨fun drives unended => ?_, fun withdrawn => ?_⟩,
    fun s a bit driving => ⟨fun recessive => ?_, fun dominant => ?_⟩, fun s driving => ?_⟩
  · show Host.Outcome.next (State.attemptStart run rx s) = _
    rw [State.attemptStart, waiting]
    exact congrArg Host.Outcome.next ((if_pos drives).trans (drive_eq run rx a unended))
  · show Host.Outcome.next (State.attemptStart run rx s) = _
    rw [State.attemptStart, waiting]
    exact congrArg Host.Outcome.next (if_neg (by rw [withdrawn]; nofun))
  · exact congrArg Host.Outcome.next (arbitrationMismatch_recessive driving recessive)
  · show Host.Outcome.next (State.arbitrationMismatch bit s) = _
    rw [State.arbitrationMismatch, driving]
    exact congrArg Host.Outcome.next (if_neg dominant)
  · exact congrArg Host.Outcome.next (if_pos driving)

end Sys2Proof.Proofs
end

section
/-! SUPPORT. The receive side on the levels that a transmitter sends: recessive bit times, one character, and characters
that follow one another. -/

namespace Sys2Proof.Proofs

open Sys2Proof Sys2Proof.Machine Sys2Proof.Safety

/-! ### The receive side between and within characters (R127) -/

/-- The receive side stands between characters, on a recessive line, so many bit times on. -/
structure BetweenChars (r : Receiver) (time : Nat) (first : Option Nat) (chars : List Byte) : Prop where
  time : r.time = time
  level : r.level = .recessive
  data : r.data = none
  first : r.first = first
  chars : r.chars = chars

/-- The receive side stands within a character, of which it has taken so many data bits. -/
structure WithinChar (r : Receiver) (bits : List Bool) (time : Nat) (first : Option Nat) (chars : List Byte) : Prop where
  time : r.time = time
  data : r.data = some bits
  first : r.first = first
  chars : r.chars = chars

/-- The levels of one bit as a transmitter sends it. -/
def sentBit (b : Bool) : BitTime := if b then ⟨.recessive, .recessive⟩ else ⟨.dominant, .dominant⟩

theorem bitTimes_eq (bits : List Bool) : bitTimes bits = bits.map sentBit := rfl

/-- What the receive side has made of bits that a transmitter sends, from `r` on. -/
def hear (r : Receiver) (bits : List Bool) : Receiver := (bitTimes bits).foldl Receiver.take r

theorem hear_cons (r : Receiver) (b : Bool) (bits : List Bool) :
    hear r (b :: bits) = hear (r.take (sentBit b)) bits := rfl

theorem hear_append (r : Receiver) (bits bits' : List Bool) : hear r (bits ++ bits') = hear (hear r bits) bits' := by
  simp only [hear, bitTimes_eq, List.map_append, List.foldl_append]

@[simp] theorem followRun_time (x : BitTime) (r : Receiver) : (r.followRun x).time = r.time := by
  unfold Receiver.followRun; split <;> rfl

@[simp] theorem followRun_level (x : BitTime) (r : Receiver) : (r.followRun x).level = r.level := by
  unfold Receiver.followRun; split <;> rfl

@[simp] theorem followRun_data (x : BitTime) (r : Receiver) : (r.followRun x).data = r.data := by
  unfold Receiver.followRun; split <;> rfl

@[simp] theorem followRun_first (x : BitTime) (r : Receiver) : (r.followRun x).first = r.first := by
  unfold Receiver.followRun; split <;> rfl

@[simp] theorem followRun_chars (x : BitTime) (r : Receiver) : (r.followRun x).chars = r.chars := by
  unfold Receiver.followRun; split <;> rfl

section Taken
variable {r : Receiver} {t : Nat} {first : Option Nat} {chars : List Byte} {bits : List Bool}

/-- A bit time that reads recessive begins no character. -/
theorem BetweenChars.pause (h : BetweenChars r t first chars) {x : BitTime} (recessive : x.middle = .recessive) :
    BetweenChars (r.take x) (t + 1) first chars := by
  obtain ⟨rfl, level, data, rfl, rfl⟩ := h
  constructor <;> simp [Receiver.take, Receiver.assemble, Receiver.startBit, data, recessive]

/-- A dominant bit on a recessive line is a start bit. -/
theorem BetweenChars.startBit (h : BetweenChars r t first chars) :
    WithinChar (r.take (sentBit false)) [] (t + 1) (some (first.getD t)) chars := by
  obtain ⟨rfl, level, data, rfl, rfl⟩ := h
  constructor <;> simp [Receiver.take, Receiver.assemble, Receiver.startBit, sentBit, data, level]

theorem WithinChar.dataBit (h : WithinChar r bits t first chars) (room : bits.length < 8) (b : Bool) :
    WithinChar (r.take (sentBit b)) (bits ++ [b]) (t + 1) first chars := by
  obtain ⟨rfl, data, rfl, rfl⟩ := h
  have level : ((sentBit b).middle == .recessive) = b := by cases b <;> rfl
  constructor <;> simp [Receiver.take, Receiver.assemble, data, room, level]

/-- A recessive stop bit completes the character. -/
theorem WithinChar.stopBit (h : WithinChar r bits t first chars) (whole : bits.length = 8) :
    BetweenChars (r.take (sentBit true)) (t + 1) first (chars ++ [byteOfBits bits]) := by
  obtain ⟨rfl, data, rfl, rfl⟩ := h
  constructor <;> simp [Receiver.take, Receiver.assemble, sentBit, data, whole]

theorem WithinChar.dataBits (h : WithinChar r bits t first chars) {more : List Bool}
    (room : bits.length + more.length ≤ 8) :
    WithinChar (hear r more) (bits ++ more) (t + more.length) first chars := by
  induction more generalizing r bits t with
  | nil => simpa [hear, bitTimes_eq] using h
  | cons b more ih =>
    rw [List.length_cons] at room
    have next := ih (h.dataBit (by omega) b) (by rw [List.length_append, List.length_singleton]; omega)
    rw [List.append_assoc, List.singleton_append, Nat.add_right_comm] at next
    exact next

theorem dataBit_getElem (b : Bool) (i : Nat) (h : i < 8) :
    (if b = true then 1#8 else 0#8)[i] = (decide (i = 0) && b) := by
  cases b <;> simp

/-- R127: the eight data bits of a character, most significant first, are that character. -/
theorem byteOfBits_dataBits (c : Byte) : byteOfBits (dataBits c) = c := by
  apply BitVec.eq_of_getLsbD_eq
  intro i hi
  interval_cases i <;> simp [byteOfBits, dataBits, dataBit_getElem]

/-- 4.1, R127: one character as it is sent. -/
theorem BetweenChars.char (h : BetweenChars r t first chars) (c : Byte) :
    BetweenChars (hear r (charBits c)) (t + 10) (some (first.getD t)) (chars ++ [c]) := by
  have data := h.startBit.dataBits (more := dataBits c) (by simp [dataBits])
  have whole := data.stopBit (by simp [dataBits])
  rw [List.nil_append, byteOfBits_dataBits] at whole
  rw [charBits, hear_cons, hear_append]
  exact whole

theorem BetweenChars.pauses (h : BetweenChars r t first chars) {xs : List BitTime}
    (recessive : ∀ x ∈ xs, x.middle = .recessive) :
    BetweenChars (xs.foldl Receiver.take r) (t + xs.length) first chars := by
  induction xs generalizing r t with
  | nil => exact h
  | cons x xs ih =>
    have next := ih (h.pause (recessive x List.mem_cons_self)) fun y hy => recessive y (List.mem_cons_of_mem x hy)
    rwa [List.length_cons, Nat.add_comm xs.length, ← Nat.add_assoc]

/-- R127: one character as it is sent, after some recessive bit times. -/
theorem BetweenChars.pausedChar (h : BetweenChars r t first chars) (pause : Nat) (c : Byte) :
    BetweenChars (hear r (List.replicate pause true ++ charBits c)) (t + pause + 10) (some (first.getD (t + pause)))
      (chars ++ [c]) := by
  have silent : ∀ x ∈ bitTimes (List.replicate pause true), x.middle = .recessive := by
    simp [bitTimes_eq, sentBit]
  have paused := h.pauses silent
  rw [bitTimes_eq, List.length_map, List.length_replicate] at paused
  rw [hear_append]
  exact paused.char c

/-- R127: characters after the first, each after some recessive bit times. -/
theorem BetweenChars.later {time : Nat} (h : BetweenChars r t (some time) chars) (later : List (Nat × Byte)) :
    ∃ t', BetweenChars (hear r (later.flatMap fun x => List.replicate x.1 true ++ charBits x.2)) t' (some time)
      (chars ++ later.map Prod.snd) := by
  induction later generalizing r t chars with
  | nil => exact ⟨t, by simpa [hear, bitTimes_eq] using h⟩
  | cons x later ih =>
    obtain ⟨pause, c⟩ := x
    obtain ⟨t', done⟩ := ih (h.pausedChar pause c)
    rw [List.append_assoc] at done
    rw [List.flatMap_cons, hear_append]
    exact ⟨t', done⟩

end Taken

/-! ### What a stretch shows (R127, R138) -/

theorem idle_between : BetweenChars .idle 0 none [] := ⟨rfl, rfl, rfl, rfl, rfl⟩

/-- R138: the frame that a stretch shows which ends between characters. -/
theorem reception_of_between {x : Stretch} {t : Nat} {first : Option Nat} {chars : List Byte}
    (h : BetweenChars (Stretch.received x) t first chars) :
    Stretch.reception x = first.map fun time => { offset := x.offset + time, chars := chars } := by
  rw [Stretch.reception, h.first, h.chars]

/-- R127: what is sent after recessive bit times, or at once, is read back. -/
theorem reception_sent (offset pause : Nat) (c : Byte) (later : List (Nat × Byte)) :
    Stretch.reception { offset, bits := bitTimes (((pause, c) :: later).flatMap fun x =>
      List.replicate x.1 true ++ charBits x.2) } = some { offset := offset + pause, chars := c :: later.map Prod.snd } := by
  obtain ⟨t, done⟩ := (idle_between.pausedChar pause c).later later
  rw [← hear_append, Nat.zero_add] at done
  exact reception_of_between (x := ⟨offset, _⟩) done

/-- 7.3: an attempt other than a break is its characters, one at once after another. -/
theorem Attempt.bits_eq {a : Attempt} (frame : a ≠ .brk) : a.bits = a.chars.flatMap charBits := by
  cases a with
  | brk => exact absurd rfl frame
  | mark sender => exact (List.append_nil _).symm
  | slotFrame _ _ | announcement _ _ => rfl

theorem Attempt.chars_ne_nil {a : Attempt} (frame : a ≠ .brk) : a.chars ≠ [] := by
  cases a with
  | brk => exact absurd rfl frame
  | mark _ | slotFrame _ _ | announcement _ _ => nofun

/-- R127: an attempt other than a break is read back as its characters, from its first bit on. -/
theorem reception_attempt {a : Attempt} (offset : Nat) (frame : a ≠ .brk) :
    Stretch.reception { offset, bits := bitTimes a.bits } = some { offset, chars := a.chars } := by
  obtain ⟨c, later, chars⟩ := List.exists_cons_of_ne_nil (Attempt.chars_ne_nil frame)
  have sent := reception_sent offset 0 c (later.map fun d => (0, d))
  rw [Attempt.bits_eq frame, chars]
  simpa [List.flatMap_map, Function.comp_def] using sent

/-- R127: a line that reads recessive throughout begins no character. -/
theorem reception_recessive (offset : Nat) {bits : List BitTime} (recessive : ∀ x ∈ bits, x.middle = .recessive) :
    Stretch.reception { offset, bits } = none :=
  reception_of_between (idle_between.pauses recessive)
end Sys2Proof.Proofs
end

section
/-! SUPPORT. Marks, slot frames and announcements, judged as they were composed, and the statement that what is sent is
read back. -/

namespace Sys2Proof.Proofs

open Sys2Proof Sys2Proof.Machine Sys2Proof.Safety

/-! ### Fields (R184, R185) -/

theorem addressFits_lt {a : Nat} (fits : addressFits a = true) : a < 64 := by
  simp only [addressFits, Bool.and_eq_true, decide_eq_true_eq] at fits
  omega

theorem ofNat6_toNat {n : Nat} (small : n < 64) : (BitVec.ofNat 6 n).toNat = n := by
  rw [BitVec.toNat_ofNat]; omega

theorem topTwo_low (top : BitVec 2) {low : Nat} (small : low < 64) : ((topTwo top low).extractLsb' 0 6).toNat = low := by
  rw [topTwo, BitVec.extractLsb'_append_eq_right, ofNat6_toNat small]

theorem topTwo_top (top : BitVec 2) (low : Nat) : (topTwo top low).extractLsb' 6 2 = top :=
  BitVec.extractLsb'_append_eq_left

theorem slotSetOf_bytes (s : SlotSet) :
    slotSetOf (s.extractLsb' 24 8) (s.extractLsb' 16 8) (s.extractLsb' 8 8) (s.extractLsb' 0 8) = s := by
  rw [slotSetOf, BitVec.extractLsb'_append_extractLsb'_eq_extractLsb',
    BitVec.extractLsb'_append_extractLsb'_eq_extractLsb', BitVec.extractLsb'_append_extractLsb'_eq_extractLsb',
    BitVec.extractLsb'_eq_self] <;> rfl

theorem kindOf_kindBits (k : AnnouncementKind) : kindOf (kindBits k) = some k := by cases k <;> rfl

/-- R140: a legal announcement has an aux of 2 at the most. -/
theorem aux_le_of_legal {a : Announcement} (legal : setAndAuxLegal a = true) : a.aux ≤ 2 := by
  unfold setAndAuxLegal at legal
  split at legal <;> simp only [Bool.and_eq_true, decide_eq_true_eq, beq_iff_eq] at legal <;> omega

/-- R141: the CRC that is sent with a content agrees with it. -/
theorem crcAgrees_word16 (content : List Byte) : crcAgrees content (word16 (crcOf content)) = true := by
  rw [crcAgrees, beq_self_eq_true]

/-! ### Marks (R184) -/

theorem judgeMark_sent {sender : Nat} (fits : addressFits sender = true) :
    judgeMark (markChar sender) = .mark sender := by
  unfold judgeMark markChar
  simp only [topTwo_low 3 (addressFits_lt fits), topTwo_top, fits, and_self, if_true]

/-! ### Slot frames (R184) -/

/-- R138, R140, R141: the payload and the CRC of a slot frame, behind the length that was sent for it. -/
theorem judgeBody_sent (sender : Nat) (stream : StreamNo) (keep : Bool) (c0 c1 c2 : Byte) {payload : List Byte}
    (fits : payload.length ≤ if keep then 0 else 32) :
    judgeBody sender stream keep c0 c1 c2 (byteOf payload.length)
      (payload ++ word16 (crcOf (c0 :: c1 :: c2 :: byteOf payload.length :: payload))) =
    .slotFrame { sender, stream, seq := c2, body := if keep then .keep else .data payload } := by
  have small : payload.length < 256 := by split at fits <;> omega
  have crc (r : BitVec 16) : (word16 r).take 2 = word16 r := rfl
  have long (r : BitVec 16) : ¬ (payload ++ word16 r).length < payload.length + 2 := by simp [word16]
  simp only [judgeBody, byteOf_toNat small, if_neg (Nat.not_lt.mpr fits), if_neg (long _), List.take_left, List.drop_left,
    crc, crcAgrees_word16, if_true]

/-- R184: the type bits tell DATA from KEEP, and a KEEP frame has no payload. -/
theorem body_of_typeBits (body : FrameBody) :
    (if FrameBody.typeBits body == 1 then FrameBody.keep else .data (FrameBody.payload body)) = body := by
  cases body <;> rfl

theorem payload_fits {body : FrameBody} (fits : bodyFits body = true) :
    (FrameBody.payload body).length ≤ if FrameBody.typeBits body == 1 then 0 else 32 := by
  cases body with
  | data p => exact of_decide_eq_true fits
  | keep => exact Nat.le_refl 0

/-- R140, R141, R184: a slot frame is judged as itself. -/
theorem judgeSlotFrame_sent {f : SlotFrame} (legal : frameLegal f = true) :
    judgeSlotFrame (frameChars f) = .slotFrame f := by
  obtain ⟨sender, stream, seq, body⟩ := f
  simp only [frameLegal, Bool.and_eq_true] at legal
  obtain ⟨address, fits⟩ := legal
  have type : (FrameBody.typeBits body != 0 && FrameBody.typeBits body != 1) = false := by cases body <;> rfl
  have judged := judgeBody_sent sender stream (FrameBody.typeBits body == 1)
    (BitVec.ofNat 6 sender ++ FrameBody.typeBits body) (byteOf stream) seq (payload_fits fits)
  rw [body_of_typeBits] at judged
  simp only [frameChars, withCrc, frameContent, List.cons_append, judgeSlotFrame, BitVec.extractLsb'_append_eq_left,
    BitVec.extractLsb'_append_eq_right, ofNat6_toNat (addressFits_lt address), address, type, streamArg_byteOf]
  exact judged

/-! ### Announcements (R185) -/

/-- R140, R141, R185: an announcement is judged as itself. -/
theorem judgeAnnouncement_sent {a : Announcement} (legal : announcementLegal a = true) :
    judgeAnnouncement (announcementChars a) = .announcement a := by
  simp only [announcementLegal, Bool.and_eq_true] at legal
  obtain ⟨address, setAndAux⟩ := legal
  have aux := byteOf_toNat (show a.aux < 256 from lt_of_le_of_lt (aux_le_of_legal setAndAux) (by decide))
  simp only [announcementChars, withCrc, announcementContent, slotSetBytes, List.cons_append, List.nil_append,
    judgeAnnouncement, topTwo_top, kindOf_kindBits, topTwo_low _ (addressFits_lt address), address, streamArg_byteOf]
  refine (if_neg nofun).trans ((if_pos (crcAgrees_word16 _)).trans ?_)
  rw [slotSetOf_bytes, aux]
  exact if_pos setAndAux

/-! ### Frames in place (R138) -/

/-- Settles O55: the characters are those sent, and they are judged as they were composed. -/
theorem sentFramesAreReadBack : Obligations.SentFramesAreReadBack := by
  refine ⟨fun sender offset low high inPlace => ?_, fun k f offset legal inPlace => ?_,
    fun w a offset legal inPlace => ?_, fun a offset frame => reception_attempt offset frame, reception_sent,
    fun offset bits recessive => reception_recessive offset recessive⟩
  · exact (if_pos inPlace).trans (judgeMark_sent (by simp [addressFits, low, high]))
  · exact (if_pos inPlace).trans (judgeSlotFrame_sent legal)
  · exact (if_pos inPlace).trans (judgeAnnouncement_sent legal)

end Sys2Proof.Proofs
end

section
/-! SUPPORT. SETUP by its arguments, STOP where nothing has to be given up, and the reset pin with the initialisation period. -/

namespace Sys2Proof.Proofs

open Sys2Proof Sys2Proof.Machine Sys2Proof.Safety

/-! ### SETUP (R146) -/

/-- R146: the bit rates, by their argument values. -/
def bitRateTable : List (Byte × BitRate) := [(1, .mbit1), (2, .mbit2), (4, .mbit4)]

theorem bitRateArg_iff (v : Byte) (rate : BitRate) : bitRateArg v = some rate ↔ (v, rate) ∈ bitRateTable := by
  simp only [bitRateArg, bitRateTable, List.mem_cons, List.not_mem_nil, or_false, Prod.mk.injEq]
  by_cases one : v = 1
  · subst one; simp [eq_comm]
  by_cases two : v = 2
  · subst two; simp [eq_comm]
  by_cases four : v = 4
  · subst four; simp [eq_comm]
  simp only [one, two, four, if_false, false_and, or_false, reduceCtorEq]

theorem bitRate_exists_iff (v : Byte) : (∃ rate, (v, rate) ∈ bitRateTable) ↔ v = 1 ∨ v = 2 ∨ v = 4 := by
  simp [bitRateTable, exists_or]

/-- R146: the arguments that SETUP takes, and the record that it makes of them. -/
theorem setupArgs_iff (a v l r b : Byte) (record : Setup) : setupArgs [a, v, l, r, b] = some record ↔
    ∃ rate, (v, rate) ∈ bitRateTable ∧ (1 ≤ a.toNat ∧ a.toNat ≤ 62) ∧ (2 ≤ l.toNat ∧ l.toNat ≤ 15) ∧
      (1 ≤ r.toNat ∧ r.toNat ≤ 15) ∧ b.toNat ≤ 32 ∧
      record = { address := a.toNat, bitRate := rate, leaseLimit := l.toNat, attemptReload := r.toNat,
                 receiveReserve := b.toNat } := by
  simp only [setupArgs, Option.bind_eq_bind, Option.bind_eq_some_iff, bitRateArg_iff, rangeArg, addressArg, addressFits,
    Option.ite_none_right_eq_some, Option.some.injEq, Bool.and_eq_true, decide_eq_true_eq, Nat.zero_le, true_and]
  constructor
  · rintro ⟨_, ⟨address, rfl⟩, rate, isRate, _, ⟨lease, rfl⟩, _, ⟨reload, rfl⟩, _, ⟨reserve, rfl⟩, rfl⟩
    exact ⟨rate, isRate, address, lease, reload, reserve, rfl⟩
  · rintro ⟨rate, isRate, address, lease, reload, reserve, rfl⟩
    exact ⟨_, ⟨address, rfl⟩, rate, isRate, _, ⟨lease, rfl⟩, _, ⟨reload, rfl⟩, _, ⟨reserve, rfl⟩, rfl⟩

theorem takeSetup_badArgument {args : List Byte} (bad : setupArgs args = none) (u : State) :
    takeSetup args u = refuse .badArgument u := by
  rw [takeSetup, bad]

theorem takeSetup_wrongState {args : List Byte} {record : Setup} {u : State} (good : setupArgs args = some record)
    (awake : u.station.state ≠ .offline) : takeSetup args u = refuse .wrongState u := by
  rw [takeSetup, good]
  exact if_pos awake

theorem takeSetup_taken {args : List Byte} {record : Setup} {u : State} (good : setupArgs args = some record)
    (offline : u.station.state = .offline) : takeSetup args u = taken { u with
      setup := record
      streams := Vector.ofFn fun n : StreamNo => { u.streams[n] with attempts := record.attemptReload, backoff := 0 } } := by
  rw [takeSetup, good]
  exact if_neg (not_not_intro offline)

/-- Settles O2: by the arguments, which make a record exactly where all five are in range, and then by the station's state. -/
theorem setupReplacesRecord : Obligations.SetupReplacesRecord := by
  have fits (a v l r b : Byte) : RequestFits { code := 16, needs := (· == 5), take := takeSetup } 16 5 [a, v, l, r, b] :=
    ⟨rfl, rfl, by decide, rfl⟩
  refine ⟨fun s a v l r b rate takes offline a1 a2 isRate l1 l2 r1 r2 b2 => ?_, fun s a v l r b takes => ?_⟩
  · have good := (setupArgs_iff a v l r b _).mpr ⟨rate, isRate, ⟨a1, a2⟩, ⟨l1, l2⟩, ⟨r1, r2⟩, b2, rfl⟩
    exact request_taken takes (fits a v l r b) (takeSetup_taken good offline) rfl
  · refine ⟨fun outside => ?_, fun ⟨address, isRate, lease, reload, reserve⟩ awake => ?_⟩
    · have bad : setupArgs [a, v, l, r, b] = none := by
        refine Option.eq_none_iff_forall_ne_some.mpr fun record found => outside ?_
        obtain ⟨rate, isRate, address, lease, reload, reserve, -⟩ := (setupArgs_iff a v l r b record).mp found
        exact ⟨address, (bitRate_exists_iff v).mp ⟨rate, isRate⟩, lease, reload, reserve⟩
      exact request_refused takes (fits a v l r b) (status := .badArgument) (by decide) (takeSetup_badArgument bad _)
    · obtain ⟨rate, isRate⟩ := (bitRate_exists_iff v).mpr isRate
      have good := (setupArgs_iff a v l r b _).mpr ⟨rate, isRate, address, lease, reload, reserve, rfl⟩
      exact request_refused takes (fits a v l r b) (status := .wrongState) (by decide) (takeSetup_wrongState good awake)

/-! ### STOP where nothing has to be given up (R157, R158, R160) -/

/-- R157: the stream has nothing to give up and is not giving anything up. -/
def NothingHeld (s : State) (n : StreamNo) : Prop :=
  s.streams[n].state ≠ .releasing ∧ s.streams[n].slots = 0 ∧ ¬ ClaimFlies s n

theorem closed_of_shut {st : Stream} (shut : ¬ StreamIsOpen st) (other : st.state ≠ .releasing) : st.state = .closed := by
  cases is : st.state with
  | closed => rfl
  | releasing => exact absurd is other
  | claiming => exact absurd (.inl is) shut
  | degraded => exact absurd (.inr (.inl is)) shut
  | opened => exact absurd (.inr (.inr is)) shut

/-- R80, R157: such a stream is CLOSED at the start of a leave, and keeps what entry to OFFLINE keeps of it. -/
theorem leavingStream_closed {s : State} {n : StreamNo} (nothing : NothingHeld s n) :
    (leavingStream s n).state = .closed ∧ (leavingStream s n).offline = s.streams[n].offline := by
  obtain ⟨other, slots, claim⟩ := nothing
  unfold leavingStream
  by_cases isOpen : s.streams[n].isOpen = true
  · rw [if_pos isOpen, shutStream_keeps fun gives => gives.elim (· slots) claim, offline_eq, offline_eq]
    exact ⟨rfl, rfl⟩
  · rw [if_neg isOpen]
    exact ⟨closed_of_shut (mt (isOpen_iff _).mpr isOpen) other, rfl⟩

/-- R80, R119: the buffers of a queue that have returned and those that the stream still holds at the start of a leave. -/
theorem leavingStream_buffers (s : State) (n : StreamNo) :
    (if s.streams[n].isOpen then s.streams[n].queue.length else 0) + (leavingStream s n).buffers = s.streams[n].buffers := by
  unfold leavingStream
  split
  · have flight : (shutStream (s.claimInFlight n) s.streams[n]).buffers = if s.streams[n].inFlight.isSome then 1 else 0 := by
      unfold shutStream closedStream
      split <;> simp [Stream.buffers, flushedStream]
    rw [flight, Stream.buffers]
  · exact Nat.zero_add _

/-- R157: STOP in ACTIVE, up to the end of a leave that no stream holds open. -/
theorem beginLeave_starts (s : State) : ∃ u : State, s.beginLeave = u.leaveIfDone ∧
    u.station = { s.station with state := .leaving } ∧ (∀ n : StreamNo, u.streams[n] = leavingStream s n) ∧
    (u.freeBuffers = s.freeBuffers + s.sumStreams fun st => if st.isOpen then st.queue.length else 0) ∧
    u = { s with
      station := u.station, streams := u.streams, freeBuffers := u.freeBuffers, ann := u.ann, choices := u.choices } := by
  obtain ⟨_, -, -, leaves⟩ := beginLeave_spec s
  exact ⟨_, leaves, rfl, fun n => by simp only [Fin.getElem_fin, Vector.getElem_ofFn], rfl, rfl⟩

/-- R157, R158: a leave with nothing to give up ends at once. -/
theorem beginLeave_ends {s : State} (nothing : ∀ n, NothingHeld s n) :
    EntersOffline s s.beginLeave ∧ Latches s s.beginLeave (oneFlag .left) ∧ s.beginLeave.port = s.port := by
  obtain ⟨u, leaves, leaving, streams, free, whole⟩ := beginLeave_starts s
  have done : u.station.state = .leaving ∧ u.allClosed = true :=
    ⟨by rw [leaving], (allClosed_iff u).mpr fun n => by rw [streams]; exact (leavingStream_closed (nothing n)).1⟩
  have buffers : u.freeBuffers + u.sumStreams Stream.buffers = s.freeBuffers + s.sumStreams Stream.buffers := by
    rw [free, Nat.add_assoc, State.sumStreams, State.sumStreams, ← List.sum_map_add]
    simp only [streams, leavingStream_buffers]
    rfl
  rw [leaves, leaveIfDone_done done]
  refine ⟨entersOffline_withLatch (t := u.enterOffline) ?_ _, latches_one (by rw [whole]; rfl),
    by rw [whole]; rfl⟩
  obtain ⟨station, timer, receiver, transmit, map, queue, -, taps, returned, setup, pins⟩ := enterOffline_spec u
  refine ⟨?_, ?_, receiver, transmit, map, queue, fun n => ?_, fun v => ?_, returned.trans buffers, ?_, ?_⟩
  · rw [station, leaving]
  · rw [timer, whole]
  · rw [enterOffline_stream, streams, (leavingStream_closed (nothing n)).2, offline_eq]
  · rw [taps, whole]
  · rw [setup, whole]
  · rw [pins, whole]

/-- The port and the latch are no part of an entry to OFFLINE, neither before it nor after it. -/
theorem entersOffline_ofRequest {s v : State} {code count : Byte} {args : List Byte}
    (h : EntersOffline (atTaking s code count args) v) (latch : EventLatch) (port : Port) :
    EntersOffline s { v with latch := latch, port := port } := by
  obtain ⟨station, timer, receiver, transmit, map, queue, streams, taps, buffers, setup, pins⟩ := h
  exact ⟨station, timer, receiver, transmit, map, queue, streams, taps, buffers, setup, pins⟩

theorem stop_fits : RequestFits { code := 18, needs := (· == 0), take := takeStop } 18 0 [] := ⟨rfl, rfl, by decide, rfl⟩

/-- R157, R98: a STOP that takes the station to OFFLINE, with the event's own causes and CHANGE. -/
theorem stop_entersOffline {s : State} {event : State → State} {own : Flag → Bool} (takes : TakesRequests s)
    (accepts : takeStop [] (atTaking s 18 0 []) = taken (State.changing event (atTaking s 18 0 [])))
    (enters : EntersOffline (atTaking s 18 0 []) (event (atTaking s 18 0 [])))
    (latches : Latches (atTaking s 18 0 []) (event (atTaking s 18 0 [])) own)
    (port : (event (atTaking s 18 0 [])).port = (atTaking s 18 0 []).port) :
    ∃ t, exec (.stop [0]) s = .next t ∧ EntersOffline s t ∧ t.port = answeredPort s 18 0 [] [1] ∧
      Latches s t (fun f => own f || changeFlags s t f) := by
  refine ⟨_, request_taken takes stop_fits accepts port, entersOffline_ofRequest enters _ _, rfl, ?_⟩
  have caused := latches_of_latch (latches_from (latches_event latches) rfl) rfl
  exact latches_congr caused fun f => by cases f <;> rfl

/-- Settles O4: by the station's state; in ACTIVE every stream closes at once, so that the leave ends as it begins. -/
theorem stopTakesOffline : Obligations.StopTakesOffline := by
  intro s takes
  refine ⟨fun still => ?_, fun active nothing => ?_, fun refused => ?_⟩
  · have accepts : takeStop [] (atTaking s 18 0 []) = taken (State.changing State.enterOffline (atTaking s 18 0 [])) := by
      rcases still with state | state <;> simp only [takeStop, atTaking_station, state]
    obtain ⟨t, ran, enters, port, latches⟩ :=
      stop_entersOffline takes accepts (enterOffline_spec _) (latches_none rfl) rfl
    exact ⟨t, ran, enters, latches_congr latches fun f => Bool.false_or _, port⟩
  · have accepts : takeStop [] (atTaking s 18 0 []) = taken (State.changing State.beginLeave (atTaking s 18 0 [])) := by
      simp only [takeStop, atTaking_station, active]
    obtain ⟨enters, left, port⟩ := beginLeave_ends (s := atTaking s 18 0 []) nothing
    exact stop_entersOffline takes accepts enters left port
  · refine request_refused takes stop_fits (status := .wrongState) (by decide) ?_
    rcases refused with state | state <;> simp only [takeStop, atTaking_station, state]

/-! ### The reset pin and the initialisation period (R147, R149, R172, R181) -/

/-- R172, R181: while RESETN is low, SDO is high-impedance. -/
theorem sdo_resetLow {s : State} (low : s.pins.resetLow = true) : s.sdo = none := by
  simp [State.sdo, low]

/-- R149: the end of the initialisation period latches READY. -/
theorem initialisationEnd_eq {s : State} (initialising : s.station.state = .initialising)
    (high : s.pins.resetLow = false) : s.initialisationEnd =
      State.latches .ready { s with station := { s.station with state := .offline, initCount := 512 } } :=
  if_pos ⟨initialising, high⟩

/-- Settles O28: by the three events, each in the states in which it occurs. -/
theorem pinResetAndInitialisation : Obligations.PinResetAndInitialisation := by
  refine ⟨fun s => ⟨s.pinReset, rfl, sdo_resetLow rfl, rfl⟩, fun s low => ?_, fun s initialising high => ?_⟩
  · exact congrArg Host.Outcome.next (if_pos low)
  · have ends := initialisationEnd_eq initialising high
    exact ⟨_, rfl, by rw [ends]; rfl, latches_one (by rw [ends]; rfl)⟩

end Sys2Proof.Proofs
end

section
/-! SUPPORT. ATTN stays at its condition: a set of causes judges it, and what brings no cause leaves the latch alone. -/

namespace Sys2Proof.Proofs

open Sys2Proof Sys2Proof.Machine Sys2Proof.Safety

/-! ### The two reasons for ATTN to follow (R165) -/

theorem attn_of_latch {s t : State} (h : AttnFollows s) (same : t.latch = s.latch) : AttnFollows t := by
  rw [AttnFollows, same]; exact h

theorem attn_of_latches {s t : State} {p : Flag → Bool} (caused : Latches s t p) (h : AttnFollows s) : AttnFollows t := by
  obtain ⟨-, -, -, follows⟩ := caused
  exact follows h

/-- R164, R165: causes judge ATTN, whatever it was. -/
theorem attn_causes (m : BitVec 66) (s : State) : AttnFollows (State.causes m s) := attn_judge _

theorem attn_latches (f : Flag) (s : State) : AttnFollows (State.latches f s) := attn_causes _ s

/-- R98: an event that is watched for CHANGE ends with a set of causes, be it an empty one. -/
theorem attn_changing (event : State → State) (s : State) : AttnFollows (State.changing event s) := attn_causes _ _

theorem attn_boundary (kind : BoundaryKind) (s : State) : AttnFollows (State.boundary kind s) := attn_changing _ s

/-! ### Operations that bring no cause -/

theorem AttemptEnds.latch {o : Option Provisional} {a : Attempt} {s t : State} (ends : AttemptEnds o a s t) :
    t.latch = s.latch := by
  rw [ends.whole]

section Same
variable (s : State)

@[simp] theorem settle_latch : s.settle.latch = s.latch := by
  rcases settle_cases s with same | ⟨o, a, -, ends⟩
  · rw [same]
  · exact ends.latch

@[simp] theorem cut_latch : s.cut.latch = s.latch := by rw [cut_frame]

@[simp] theorem attemptFault_latch (a : Attempt) : (State.attemptFault a s).latch = s.latch :=
  (attemptFault_ends a s).latch

@[simp] theorem settleMark_latch : s.settleMark.latch = s.latch := by unfold State.settleMark; split <;> rfl

@[simp] theorem takeMark_latch (sender : Nat) : (State.takeMark sender s).latch = s.latch := by
  unfold State.takeMark; split <;> rfl

@[simp] theorem expire_latch (run : Nat) : (State.expire run s).latch = s.latch := by rw [expire_eq]

@[simp] theorem runOver_latch (run : Nat) : (State.runOver run s).latch = s.latch := by
  unfold State.runOver; split <;> rfl

@[simp] theorem runSettled_latch : s.runSettled.latch = s.latch := by rw [runSettled_eq]

@[simp] theorem breakFault_latch (bit : Nat) : (State.breakFault bit s).latch = s.latch := by rw [breakFault_eq]

@[simp] theorem handBreak_latch : s.handBreak.latch = s.latch := by unfold State.handBreak; split <;> rfl

@[simp] theorem noCharacter_latch : s.noCharacter.latch = s.latch := by unfold State.noCharacter; split <;> rfl

@[simp] theorem assembled_latch (a : Attempt) (bit : Nat) : (State.assembled a bit s).latch = s.latch := rfl

@[simp] theorem supply_latch (k : Slot) : (State.supply k s).latch = s.latch := by rw [supply_frame]

@[simp] theorem countChoice_latch (free : Nat) : (State.countChoice free s).latch = s.latch := by
  unfold State.countChoice; split <;> rfl

@[simp] theorem lineHeld_latch : s.lineHeld.latch = s.latch := by unfold State.lineHeld; split <;> rfl

@[simp] theorem breakComplete_latch : s.breakComplete.latch = s.latch := by unfold State.breakComplete; split <;> rfl

@[simp] theorem arbitrationMismatch_latch (bit : Nat) : (State.arbitrationMismatch bit s).latch = s.latch := by
  unfold State.arbitrationMismatch
  split
  · split <;> rfl
  · rfl

/-- R11, R127: what a FAULT at a dominant bit does after the attempt's end brings no cause either. -/
@[simp] theorem dominantFault_latch (a : Attempt) (bit : Nat) : (State.dominantFault a bit s).latch = s.latch := by
  simp [State.dominantFault, apply_ite State.latch]

@[simp] theorem transmitFault_latch (bit : Nat) : (State.transmitFault bit s).latch = s.latch := by
  unfold State.transmitFault
  split
  · split
    · exact dominantFault_latch s _ bit
    · rfl
  · rw [settle_latch, State.atRun_latch]
  · rfl

end Same

/-! ### Operations that may bring a cause -/

section Caused
variable {s : State} (h : AttnFollows s)
include h

/-- R142: a receive error latches RX_ERROR where it is counted. -/
theorem attn_rxError : AttnFollows s.rxError := by
  unfold State.rxError
  split
  · exact attn_latches _ _
  · exact h

theorem attn_beginCharacter (r : Reception) : AttnFollows (State.beginCharacter r s) := by
  unfold State.beginCharacter
  split
  · split
    · exact h
    · exact attn_rxError h
    · exact h
  · exact h

theorem attn_noteReception (rx : Option Stretch) : AttnFollows (State.noteReception rx s) := by
  unfold State.noteReception
  split
  · exact h
  · next r _ =>
    have begun := attn_beginCharacter h r
    dsimp only
    split <;> exact begun

theorem attn_closeSegment (rx : Option Stretch) : AttnFollows (State.closeSegment rx s) := by
  have noted := attn_noteReception h rx
  simp only [State.closeSegment]
  split
  · exact attn_rxError noted
  · exact noted

theorem attn_startSegment (g : Segment) (position : Nat) (rx : Option Stretch) :
    AttnFollows (State.startSegment g position rx s) := by
  have settled : AttnFollows s.settle := attn_of_latch h (settle_latch s)
  exact attn_of_latch (attn_closeSegment settled rx) (settleMark_latch _)

/-- R109, R113: a gap latches LOSS. -/
theorem attn_tapAccount (u : TapNo) (seq next : Byte) : AttnFollows (State.tapAccount u seq next s) := by
  simp only [State.tapAccount]
  split
  · exact attn_latches _ _
  · exact h

theorem attn_tapQueue (u : TapNo) (frame : RxFrame) : AttnFollows (State.tapQueue u frame s) := by
  obtain ⟨-, caused⟩ := tapQueue_spec u frame s
  exact attn_of_latches caused h

theorem attn_tapTake (f : SlotFrame) : AttnFollows (State.tapTake f s) := by
  unfold State.tapTake
  split
  · exact h
  · next u _ =>
    split
    · exact attn_tapQueue (attn_tapAccount h u _ _) u _
    · exact attn_tapAccount h u _ _

/-- R100: an own DATA frame that was the last of its queue latches DRAINED. -/
theorem attn_dataComplete (n : StreamNo) : AttnFollows (State.dataComplete n s) := by
  simp only [State.dataComplete]
  split
  · exact attn_latches _ _
  · exact h

theorem attn_frameComplete (k : Slot) (f : SlotFrame) : AttnFollows (State.frameComplete k f s) := by
  have heard : AttnFollows (State.hearOwnFrame k s) := h
  simp only [State.frameComplete]
  split
  · exact attn_tapTake heard f
  · refine attn_of_latch ?_ (countChoice_latch _ _)
    split
    · exact attn_tapTake (attn_dataComplete heard _) f
    · exact attn_dataComplete (attn_tapTake heard f) _

/-- R133, R138, R142: a frame that ends whole is delivered, or is a receive error. -/
theorem attn_receiveWhole {admits legal : Bool} {deliver : State → State}
    (delivers : ∀ u, AttnFollows u → AttnFollows (deliver u)) (offset : Nat) :
    AttnFollows (State.receiveWhole admits offset legal deliver s) := by
  have settled : AttnFollows (State.settle (State.atRun 0 s)) := attn_of_latch h (settle_latch _)
  unfold State.receiveWhole
  split
  · dsimp only
    split
    · exact settled
    · exact attn_rxError settled
    · split
      · exact delivers _ settled
      · exact attn_rxError settled
  · exact h

end Caused

end Sys2Proof.Proofs
end

section
/-! SUPPORT. ATTN stays at its condition through every request, every event of the pins and every event of the trunk, and
the statement that every step keeps it. -/

namespace Sys2Proof.Proofs

open Sys2Proof Sys2Proof.Machine Sys2Proof.Safety

/-! ### Requests -/

section Requests
variable (args : List Byte) {s : State} (h : AttnFollows s)
include h

theorem takeSetup_attn : AttnFollows (takeSetup args s).after := by
  unfold takeSetup
  split
  · exact h
  · split <;> exact h

theorem takeStart_attn : AttnFollows (takeStart args s).after := by
  unfold takeStart
  split
  · exact h
  · split <;> exact h

theorem takeStop_attn : AttnFollows (takeStop args s).after := by
  unfold takeStop
  split
  · exact attn_changing _ s
  · exact attn_changing _ s
  · exact attn_changing _ s
  · exact h

theorem takeOpenStream_attn : AttnFollows (takeOpenStream args s).after := by
  unfold takeOpenStream
  split
  · exact h
  · split
    · exact h
    · exact attn_changing _ s

theorem takeCloseStream_attn : AttnFollows (takeCloseStream args s).after := by
  unfold takeCloseStream
  split
  · exact h
  · split
    · exact h
    · exact attn_changing _ s

theorem takeSuspended_attn (value : Bool) : AttnFollows (takeSuspended value args s).after := by
  unfold takeSuspended
  split
  · exact h
  · split <;> exact h

theorem takePush_attn : AttnFollows (takePush args s).after := by
  unfold takePush
  split
  · exact h
  · split_ifs <;> exact h

theorem takeFlush_attn : AttnFollows (takeFlush args s).after := by
  unfold takeFlush
  split
  · exact h
  · split <;> exact h

theorem takeTapOn_attn : AttnFollows (takeTapOn args s).after := by
  unfold takeTapOn
  split
  · exact h
  · split_ifs <;> exact h

theorem takeTapOff_attn : AttnFollows (takeTapOff args s).after := by
  unfold takeTapOff
  split
  · exact h
  · split <;> exact h

theorem takePull_attn : AttnFollows (takePull args s).after := by
  unfold takePull
  split
  · exact h
  · split
    · exact h
    · split <;> exact h

/-- R166: the write of the enables judges ATTN again. -/
theorem takeSetEnables_attn : AttnFollows (takeSetEnables args s).after := by
  unfold takeSetEnables
  split
  · exact h
  · exact attn_judge _

end Requests

/-- 10.6: every row of the request table. -/
theorem row_attn {r : RequestRow} (mem : r ∈ requestTable) (args : List Byte) {s : State} (h : AttnFollows s) :
    AttnFollows (r.take args s).after := by
  obtain ⟨readStream, readTap, -⟩ := readRequests_same args (s := s)
  simp only [requestTable, List.mem_cons, List.not_mem_nil, or_false] at mem
  rcases mem with rfl | rfl | rfl | rfl | rfl | rfl | rfl | rfl | rfl | rfl | rfl | rfl | rfl | rfl | rfl | rfl | rfl | rfl | rfl
  · exact takeSetup_attn args h
  · exact takeStart_attn args h
  · exact takeStop_attn args h
  · exact h
  · exact takeOpenStream_attn args h
  · exact takeCloseStream_attn args h
  · exact takeSuspended_attn args h true
  · exact takeSuspended_attn args h false
  · exact takePush_attn args h
  · exact takeFlush_attn args h
  · exact takeTapOn_attn args h
  · exact takeTapOff_attn args h
  · exact takePull_attn args h
  · exact h
  · exact readStream.symm ▸ h
  · exact readTap.symm ▸ h
  · exact h
  · exact h
  · exact takeSetEnables_attn args h

section Kept
variable {s : State} (h : AttnFollows s)
include h

/-- R107, R169: the commit of a READ_EVENTS judges ATTN again; that of a PULL leaves the latch alone. -/
theorem attn_commitOwed : AttnFollows s.commitOwed := by
  unfold State.commitOwed
  split
  · unfold State.commitPull; split <;> exact h
  · exact attn_judge _
  · exact h

theorem attn_answerOut : AttnFollows s.answerOut := attn_commitOwed h

theorem attn_clockBytes (bytes : List Byte) : AttnFollows (State.clockBytes bytes s) :=
  clockBytes_induction (fun _ _ hs => hs) (fun _ mem args _ hs => row_attn mem args hs)
    (fun _ hs => attn_commitOwed hs) bytes h

/-! ### Pins and resets -/

omit h in
/-- R171: after reset no flag is set and ATTN is inactive. -/
theorem attn_resetBlocks (r : Setup) (s : State) : AttnFollows (State.resetBlocks r s) := reset_attnFollows

theorem attn_selFalls : AttnFollows s.selFalls := by
  unfold State.selFalls
  split
  · exact h
  · dsimp only; split <;> exact h

/-- R169: the abandon removes reported marks only. -/
theorem attn_selRises : AttnFollows s.selRises := by
  unfold State.selRises
  split
  · dsimp only
    split
    · exact attn_resetBlocks _ _
    · show AttnFollows (State.setSel false s).abandonCommit
      unfold State.abandonCommit
      split <;> exact h
  · exact h

theorem attn_pinResetRelease : AttnFollows s.pinResetRelease := by
  unfold State.pinResetRelease; split <;> exact h

theorem attn_initialisationEnd : AttnFollows s.initialisationEnd := by
  unfold State.initialisationEnd
  split
  · exact attn_latches _ _
  · exact h

/-! ### The cycle -/

theorem attn_boundaryWith (p : BoundaryKind → Bool) : AttnFollows (State.boundaryWith p s) := by
  unfold State.boundaryWith
  split
  · split
    · exact attn_boundary _ s
    · exact h
  · exact h

theorem attn_recogniseBreak (rx : Option Stretch) : AttnFollows (State.recogniseBreak rx s) := by
  have uncut : AttnFollows s.cut := attn_of_latch h (cut_latch s)
  have closed : AttnFollows (State.breakSegment rx s.cut) := by
    unfold State.breakSegment
    split
    · exact attn_rxError uncut
    · exact uncut
  unfold State.recogniseBreak
  split
  · exact attn_of_latch closed (settleMark_latch _)
  · exact h

theorem attn_markTimerExpiry (run : Nat) (rx : Option Stretch) : AttnFollows (State.markTimerExpiry run rx s) := by
  have expired : AttnFollows (State.expire run s) := attn_of_latch h (expire_latch s run)
  unfold State.markTimerExpiry
  split
  · dsimp only
    split
    · split
      · exact attn_of_latch expired (handBreak_latch _)
      · exact attn_of_latch expired (handBreak_latch _)
      · exact attn_boundary _ _
      · exact expired
    · exact expired
  · exact h

omit h in
/-- R16: the lone-start report latches JOINED. -/
theorem attn_loneStartReport (s : State) : AttnFollows s.loneStartReport :=
  attn_of_latch (attn_latches .joined _) (handBreak_latch _)

theorem attn_loneStart (run : Nat) : AttnFollows (State.loneStart run s) := by
  unfold State.loneStart
  split
  · dsimp only
    split
    · exact attn_loneStartReport _
    · exact h
  · exact h

theorem attn_loneStartSettled : AttnFollows s.loneStartSettled := by
  unfold State.loneStartSettled
  split
  · exact attn_loneStartReport s
  · exact h

theorem attn_shortRunEnd (run : Nat) (stopBit : Bool) : AttnFollows (State.shortRunEnd run stopBit s) := by
  have settled : AttnFollows s.settle := attn_of_latch h (settle_latch s)
  have framed : AttnFollows (if framingRun run stopBit then s.settle.rxError else s.settle) := by
    split
    · exact attn_rxError settled
    · exact settled
  unfold State.shortRunEnd
  split
  · exact attn_loneStartSettled (attn_of_latch framed (by simp))
  · exact h

/-! ### Segment starts -/

theorem attn_slotStart (k : Slot) (rx : Option Stretch) : AttnFollows (State.slotStart k rx s) := by
  unfold State.slotStart
  split
  · exact attn_of_latch (attn_startSegment h (.slot k) (slotStartAt k) rx) (supply_latch _ k)
  · exact h

theorem attn_windowStart (w : WindowNo) (rx : Option Stretch) : AttnFollows (State.windowStart w rx s) := by
  unfold State.windowStart
  split
  · exact attn_changing _ s
  · exact h

theorem attn_gapStart (rx : Option Stretch) : AttnFollows (State.gapStart rx s) := by
  unfold State.gapStart
  split
  · exact attn_startSegment h _ _ rx
  · exact h

/-! ### Attempts -/

/-- R127, R138: the line before the own first bit, and that bit itself, may be read back as a second frame. -/
theorem attn_drive (run : Nat) (rx : Option Stretch) (a : Attempt) : AttnFollows (State.drive run rx a s) := by
  have driving : AttnFollows (State.atPosition a.firstPosition (State.setTransmit (.driving a) .dominant
      (State.noteReception rx (State.atRun run s)))) := attn_noteReception (s := State.atRun run s) h rx
  simp only [State.drive]
  split
  · exact attn_beginCharacter driving _
  · exact driving

theorem attn_attemptStart (run : Nat) (rx : Option Stretch) : AttnFollows (State.attemptStart run rx s) := by
  unfold State.attemptStart
  split
  · split
    · exact attn_drive h run rx _
    · exact h
  · exact h

theorem attn_attemptComplete : AttnFollows s.attemptComplete := by
  have ended : AttnFollows (State.endFrame s.endAttempt) := h
  unfold State.attemptComplete
  split
  · exact attn_of_latch ended (takeMark_latch _ _)
  · exact attn_frameComplete ended _ _
  · exact attn_changing _ s
  · exact h

/-! ### Frames of other stations -/

theorem attn_markReceived (offset sender : Nat) : AttnFollows (State.markReceived offset sender s) :=
  attn_receiveWhole h (fun u hu => attn_of_latch hu (takeMark_latch u sender)) offset

theorem attn_slotFrameReceived (offset : Nat) (f : SlotFrame) : AttnFollows (State.slotFrameReceived offset f s) := by
  unfold State.slotFrameReceived
  split
  · exact attn_changing _ s
  · exact h

omit h in
theorem attn_announcementReceived (offset : Nat) (a : Announcement) (apply : State → State) (s : State) :
    AttnFollows (State.announcementReceived offset a apply s) := attn_changing _ s

theorem attn_receiveError (heard : Stretch) : AttnFollows (State.receiveError heard s) := by
  unfold State.receiveError
  split
  · exact attn_rxError (s := State.noteRun (some heard) s) h
  · exact h

end Kept

/-! ### The step -/

/-- Every command that is carried out keeps ATTN at its condition. -/
theorem exec_attn {c : Instr} {s t : State} (h : AttnFollows s) (moves : exec c s = .next t) : AttnFollows t := by
  have clocked (bytes : List Byte) : AttnFollows (State.clockBytes bytes s) := attn_clockBytes h bytes
  have named (p : BoundaryKind → Bool) : AttnFollows (State.boundaryWith p s) := attn_boundaryWith h p
  cases c <;> cases moves
  case unknownRequest code bytes =>
    split
    · exact h
    · exact clocked _
  case pullCommit | readEventsCommit =>
    split
    · exact attn_answerOut h
    · exact h
  case selFalls => exact attn_selFalls h
  case selRises => exact attn_selRises h
  case pinReset => exact attn_resetBlocks _ _
  case pinResetRelease => exact attn_pinResetRelease h
  case initialisationEnd => exact attn_initialisationEnd h
  case breakRecognised rx => exact attn_recogniseBreak h rx
  case lineDominant => exact attn_of_latch h (lineHeld_latch s)
  case heardBoundary =>
    split
    · exact attn_boundary _ s
    · exact h
  case markTimerExpiry run rx => exact attn_markTimerExpiry h run rx
  case loneStart run => exact attn_loneStart h run
  case shortRunEnd run stopBit => exact attn_shortRunEnd h run stopBit
  case slotStart k rx => exact attn_slotStart h k rx
  case windowStart w rx => exact attn_windowStart h w rx
  case gapStart rx => exact attn_gapStart h rx
  case attemptStart run rx => exact attn_attemptStart h run rx
  case arbitrationMismatch bit => exact attn_of_latch h (arbitrationMismatch_latch s bit)
  case transmitFault bit => exact attn_of_latch h (transmitFault_latch s bit)
  case breakAttemptComplete => exact attn_of_latch h (breakComplete_latch s)
  case attemptComplete => exact attn_attemptComplete h
  case markReceived offset sender => exact attn_markReceived h offset sender
  case slotFrameReceived offset f => exact attn_slotFrameReceived h offset f
  case claimReceived | releaseReceived | objectReceived => exact attn_announcementReceived _ _ _ s
  case receiveError offset bits => exact attn_receiveError h _
  case lapse | confirmed | quarantineEnd | backoffEnd | stalled | closeLimit | faultThreshold | mutePeriodEnd | join =>
    exact named _
  all_goals exact clocked _

/-- Settles O56: command by command; what brings a cause or writes the latch judges ATTN again, and the rest leaves the latch
alone or removes reported marks. -/
theorem stepsKeepAttn : Obligations.StepsKeepAttn := by
  intro s t h moves
  unfold step at moves
  split at moves
  · cases moves; exact h
  · next c rest _ => exact exec_attn (s := { s with pending := rest }) h moves

end Sys2Proof.Proofs
end

section
/-! SUPPORT. The event latch: its flags kind by kind, causes between a read and its commit, and the record of READ_EVENTS. -/

namespace Sys2Proof.Proofs

open Sys2Proof Sys2Proof.Machine Sys2Proof.Safety

/-! ### The flags of a kind (9.1, R189) -/

theorem enableBit_eq (f : Flag) : enableBit f = f.kind.index := by cases f <;> rfl

theorem kind_mem_all (k : Kind) : k ∈ Kind.all := by cases k <;> decide

/-- The places from `first` on, as many as `size`. -/
theorem getLsbD_ones (size first i : Nat) :
    (BitVec.ofNat 66 ((2 ^ size - 1) * 2 ^ first)).getLsbD i =
      (decide (i < 66) && (decide (first ≤ i) && decide (i < first + size))) := by
  rw [BitVec.getLsbD_ofNat, Nat.testBit_mul_two_pow, Nat.testBit_two_pow_sub_one]
  by_cases low : first ≤ i
  · simp only [low, show i - first < size ↔ i < first + size by omega]
  · simp [low]

/-- A flag stands among its kind's flags. -/
theorem flag_index_range (f : Flag) : f.kind.first ≤ f.index ∧ f.index < f.kind.first + f.kind.size := by
  refine ⟨Nat.le_add_right _ _, Nat.add_lt_add_left ?_ _⟩
  cases f with
  | change n | drained n | stalled n => exact n.isLt
  | data u | loss u | stale u => exact u.isLt
  | _ => exact Nat.one_pos

/-- Every place of a kind is a flag of it. -/
theorem kind_flag_at {k : Kind} {i : Nat} (low : k.first ≤ i) (high : i < k.first + k.size) :
    ∃ f : Flag, f.kind = k ∧ f.index = i := by
  have place : k.first + (i - k.first) = i := Nat.add_sub_cancel' low
  have small : i - k.first < k.size := by omega
  have only (one : k.size = 1) : k.first = i := by omega
  cases k with
  | ready => exact ⟨.ready, rfl, only rfl⟩
  | joined => exact ⟨.joined, rfl, only rfl⟩
  | left => exact ⟨.left, rfl, only rfl⟩
  | muted => exact ⟨.muted, rfl, only rfl⟩
  | clash => exact ⟨.clash, rfl, only rfl⟩
  | rxError => exact ⟨.rxError, rfl, only rfl⟩
  | change => exact ⟨.change ⟨_, small⟩, rfl, place⟩
  | drained => exact ⟨.drained ⟨_, small⟩, rfl, place⟩
  | stalled => exact ⟨.stalled ⟨_, small⟩, rfl, place⟩
  | data => exact ⟨.data ⟨_, small⟩, rfl, place⟩
  | loss => exact ⟨.loss ⟨_, small⟩, rfl, place⟩
  | stale => exact ⟨.stale ⟨_, small⟩, rfl, place⟩

/-- R165: a kind has a latched flag. -/
theorem kind_latched_iff (flags : BitVec 66) (k : Kind) :
    (flags &&& k.mask != 0) = true ↔ ∃ f : Flag, f.kind = k ∧ hasFlag flags f = true := by
  rw [bne_iff_ne]
  constructor
  · intro some
    obtain ⟨i, set⟩ : ∃ i, (flags &&& k.mask).getLsbD i = true := by
      by_contra none
      exact some (BitVec.eq_of_getLsbD_eq fun i _ => by simpa using fun h => none ⟨i, h⟩)
    simp only [BitVec.getLsbD_and, Kind.mask, getLsbD_ones, Bool.and_eq_true, decide_eq_true_eq] at set
    obtain ⟨set, -, low, high⟩ := set
    obtain ⟨f, kind, rfl⟩ := kind_flag_at low high
    exact ⟨f, kind, set⟩
  · rintro ⟨f, rfl, set⟩ none
    obtain ⟨low, high⟩ := flag_index_range f
    have bit : (flags &&& f.kind.mask).getLsbD f.index = true := by
      rw [BitVec.getLsbD_and, Kind.mask, getLsbD_ones]
      simp [low, high, f.index_lt, show flags.getLsbD f.index = true from set]
    rw [none] at bit
    exact absurd bit (by simp)

/-- Settles O26: the condition looks at one kind after the other, and a kind has a latched flag where one of its places is
set. -/
theorem attnMeansEnabledFlag : Obligations.AttnMeansEnabledFlag := by
  intro s follows
  have condition : s.latch.attn = true ↔
      ∃ k : Kind, s.latch.enables.getLsbD k.index = true ∧ (s.latch.flags &&& k.mask != 0) = true := by
    rw [follows, attnCondition, List.any_eq_true]
    simp only [kind_mem_all, true_and, Bool.and_eq_true]
  rw [condition]
  simp only [kind_latched_iff, enableBit_eq, flagSet_eq]
  constructor
  · rintro ⟨_, enabled, f, rfl, set⟩
    exact ⟨f, set, enabled⟩
  · rintro ⟨f, set, enabled⟩
    exact ⟨f.kind, enabled, f, rfl, set⟩

/-! ### Causes between a read and its commit (R167 to R169) -/

/-- R168: causes set their flags and take the reported mark from them, one set of causes after another. -/
theorem causes_each (causes : List (BitVec 66)) (l : EventLatch) (f : Flag) :
    hasFlag (causes.foldl EventLatch.causes l).flags f = (hasFlag l.flags f || causes.any fun m => hasFlag m f) ∧
    hasFlag (causes.foldl EventLatch.causes l).reported f = (hasFlag l.reported f && !causes.any fun m => hasFlag m f) := by
  induction causes generalizing l with
  | nil => simp
  | cons m causes ih =>
    obtain ⟨set, marked⟩ := ih (l.causes m)
    rw [List.foldl_cons, set, marked]
    simp [EventLatch.causes, EventLatch.judge, Bool.or_assoc, Bool.and_assoc]

/-- R169: the commit clears the flags that carry the reported mark. -/
theorem hasFlag_commit (l : EventLatch) (f : Flag) :
    hasFlag l.commit.flags f = (hasFlag l.flags f && !hasFlag l.reported f) := hasFlag_without _ _ f

/-- Settles O25: at the taking exactly the set flags carry the mark, so that what the commit leaves is what had a cause. -/
theorem noCauseIsLost : Obligations.NoCauseIsLost := by
  intro l causes f
  obtain ⟨set, marked⟩ := causes_each causes l.report f
  have reported : hasFlag l.report.reported f = hasFlag l.flags f := rfl
  have kept : hasFlag l.report.flags f = hasFlag l.flags f := rfl
  show hasFlag (causes.foldl EventLatch.causes l.report).commit.flags f = causes.any fun m => hasFlag m f
  rw [hasFlag_commit, set, marked, reported, kept]
  cases hasFlag l.flags f <;> cases causes.any fun m => hasFlag m f <;> rfl

/-! ### The record of READ_EVENTS (R189) -/

/-- A 12-bit item in the two bytes of a record: the high byte. -/
def highByte (x : BitVec 12) : Byte := (x.setWidth 16).extractLsb' 8 8

/-- A 12-bit item in the two bytes of a record: the low byte. -/
def lowByte (x : BitVec 12) : Byte := (x.setWidth 16).extractLsb' 0 8

theorem highByte_unused (x : BitVec 12) : (highByte x).extractLsb' 4 4 = 0 := by
  refine BitVec.eq_of_getLsbD_eq fun i small => ?_
  simp only [highByte, BitVec.getLsbD_extractLsb', BitVec.getLsbD_setWidth, BitVec.ofNat_eq_ofNat, BitVec.getLsbD_zero]
  rw [BitVec.getLsbD_of_ge x _ (by omega)]
  simp

theorem highByte_append_lowByte (x : BitVec 12) : (highByte x ++ lowByte x).truncate 12 = x := by
  have joined : highByte x ++ lowByte x = x.setWidth 16 := by
    rw [highByte, lowByte, BitVec.extractLsb'_append_extractLsb'_eq_extractLsb' (by rfl), BitVec.extractLsb'_eq_self]
  rw [joined, BitVec.truncate_eq_setWidth, BitVec.setWidth_setWidth_of_le x (by decide), BitVec.setWidth_eq]

theorem lowByte_bit (x : BitVec 12) {i : Nat} (low : i < 8) : (lowByte x).getLsbD i = x.getLsbD i := by
  simp [lowByte, low, show i < 16 by omega]

theorem highByte_bit (x : BitVec 12) {i : Nat} (high : ¬ i < 8) (small : i < 12) :
    (highByte x).getLsbD (i - 8) = x.getLsbD i := by
  have place : 8 + (i - 8) = i := by omega
  simp [highByte, place, show i - 8 < 8 by omega, show i < 16 by omega]

theorem firstByte_unused (x : BitVec 6) : (x.setWidth 8).extractLsb' 6 2 = 0 := by
  refine BitVec.eq_of_getLsbD_eq fun i small => ?_
  simp

/-- R189: the twelve bytes, one by one. -/
theorem record_eq (l : EventLatch) : l.record =
    [(l.flags.extractLsb' 0 6).setWidth 8, l.flags.extractLsb' 6 8, l.flags.extractLsb' 14 8, l.flags.extractLsb' 22 8,
     highByte (l.flags.extractLsb' 30 12), lowByte (l.flags.extractLsb' 30 12),
     highByte (l.flags.extractLsb' 42 12), lowByte (l.flags.extractLsb' 42 12),
     highByte (l.flags.extractLsb' 54 12), lowByte (l.flags.extractLsb' 54 12),
     highByte l.enables, lowByte l.enables] := rfl

/-- A place of a field of the flags. -/
theorem field_bit (flags : BitVec 66) (first : Nat) {size i : Nat} (small : i < size) :
    (flags.extractLsb' first size).getLsbD i = flags.getLsbD (first + i) := by
  rw [BitVec.getLsbD_extractLsb', decide_eq_true small, Bool.true_and]

/-- R189: where the flag of a tap stands, in the two bytes from byte `high` of the record on. -/
def tapPlace (high : Nat) (u : TapNo) : Nat × Nat := if u.val < 8 then (high + 1, u) else (high, u - 8)

/-- R189: the flags of the taps, from place `first` of the flags on. -/
theorem tapFlag_bit (flags : BitVec 66) (first : Nat) {r : List Byte} {high : Nat}
    (highAt : r[high]? = some (highByte (flags.extractLsb' first 12)))
    (lowAt : r[high + 1]? = some (lowByte (flags.extractLsb' first 12))) (u : TapNo) :
    ∃ b : Byte, r[(tapPlace high u).1]? = some b ∧ b.getLsbD (tapPlace high u).2 = flags.getLsbD (first + u) := by
  rw [← field_bit flags first u.isLt]
  by_cases low : u.val < 8
  · simp only [tapPlace, if_pos low]
    exact ⟨_, lowAt, lowByte_bit _ low⟩
  · simp only [tapPlace, if_neg low]
    exact ⟨_, highAt, highByte_bit _ low u.isLt⟩

/-- R189: each flag stands at its place of the record. -/
theorem record_flag (l : EventLatch) (f : Flag) :
    ∃ b : Byte, l.record[(eventPlace f).1]? = some b ∧ b.getLsbD (eventPlace f).2 = hasFlag l.flags f := by
  have station {i : Nat} (small : i < 6) : ((l.flags.extractLsb' 0 6).setWidth 8).getLsbD i = l.flags.getLsbD i := by
    rw [BitVec.getLsbD_setWidth, field_bit _ _ small, decide_eq_true (show i < 8 by omega), Bool.true_and, Nat.zero_add]
  rw [record_eq]
  cases f with
  | ready | joined | left | muted | clash | rxError => exact ⟨_, rfl, station (by decide)⟩
  | change n | drained n | stalled n => exact ⟨_, rfl, field_bit _ _ n.isLt⟩
  | data u => exact tapFlag_bit l.flags 30 (high := 4) rfl rfl u
  | loss u => exact tapFlag_bit l.flags 42 (high := 6) rfl rfl u
  | stale u => exact tapFlag_bit l.flags 54 (high := 8) rfl rfl u

end Sys2Proof.Proofs
end

section
/-! SUPPORT. The status byte of a selection, READ_EVENTS with its commit, and SET_ENABLES. -/

namespace Sys2Proof.Proofs

open Sys2Proof Sys2Proof.Machine Sys2Proof.Safety

/-! ### READ_EVENTS (R167) and its commit (R169) -/

/-- Settles O22: the request is taken with the record of the latch as its data, and the set flags are the marks. -/
theorem readEventsSnapshot : Obligations.ReadEventsSnapshot := by
  intro s takes
  have fits : RequestFits { code := 68, needs := (· == 0), take := takeReadEvents } 68 0 [] := ⟨rfl, rfl, by decide, rfl⟩
  refine ⟨s.latch.record, s.latch.flags, request_answered takes fits rfl rfl, rfl, fun f => rfl, record_flag s.latch,
    ⟨_, rfl, firstByte_unused _⟩, fun i place => ?_, _, _, rfl, rfl, highByte_unused _, highByte_append_lowByte _⟩
  rcases place with rfl | rfl | rfl <;> exact ⟨_, rfl, highByte_unused _⟩

/-- R169, R176: READ_EVENTS_COMMIT in a state that owes it: the commit is made and the rest of the answer is out. -/
theorem exec_readEventsCommit {s : State} (owes : s.port.owes = some .readEvents) :
    exec .readEventsCommit s = .next { s with
      latch := s.latch.commit
      port := { s.port with
        phase := .filler, answered := s.port.answer.length, owes := none
        shifted := s.port.shifted ++ s.port.answer.drop s.port.answered } } := by
  show execReadEventsCommit s = _
  simp only [execReadEventsCommit, owes, State.answerOut, State.commitOwed, State.modifyPort]

/-- Settles O23: flag by flag, by its reported mark. -/
theorem readEventsCommitClears : Obligations.ReadEventsCommitClears := by
  intro s owes
  exact ⟨_, exec_readEventsCommit owes, rfl, hasFlag_commit s.latch, hasFlag_zero, rfl, attn_judge _⟩

/-! ### SET_ENABLES (R166) -/

/-- R189: the unused bits of the high byte. -/
theorem unused_iff (high : Byte) : high.extractLsb' 4 4 = 0 ↔ high.toNat < 16 := by
  have small := high.isLt
  have value : (high.extractLsb' 4 4).toNat = high.toNat / 16 % 16 := by
    rw [BitVec.extractLsb'_toNat, Nat.shiftRight_eq_div_pow]
  rw [← BitVec.toNat_inj, value]
  show high.toNat / 16 % 16 = 0 ↔ _
  omega

/-- R189: the twelve enables as a number. -/
theorem enables_toNat {high low : Byte} (unused : high.toNat < 16) :
    ((high ++ low).truncate 12).toNat = 256 * high.toNat + low.toNat := by
  have small := low.isLt
  rw [BitVec.truncate_eq_setWidth, BitVec.toNat_setWidth, BitVec.toNat_append,
    ← Nat.shiftLeft_add_eq_or_of_lt small, Nat.shiftLeft_eq]
  omega

/-- Settles O24: by the unused bits of the high byte. -/
theorem setEnablesWritesAll : Obligations.SetEnablesWritesAll := by
  intro s high low takes
  have fits : RequestFits { code := 80, needs := (· == 2), take := takeSetEnables } 80 2 [high, low] :=
    ⟨rfl, rfl, by decide, rfl⟩
  refine ⟨fun unused => ?_, fun used => ?_⟩
  · have args : enablesArgs [high, low] = some ((high ++ low).truncate 12) := if_pos ((unused_iff high).mpr unused)
    have accepts (u : State) : takeSetEnables [high, low] u =
        taken { u with latch := u.latch.enable ((high ++ low).truncate 12) } := by
      rw [takeSetEnables, args]
    exact ⟨_, request_taken takes fits (accepts _) rfl, rfl, rfl, rfl, enables_toNat unused, attn_judge _⟩
  · have args : enablesArgs [high, low] = none := if_neg (mt (unused_iff high).mp (Nat.not_lt.mpr used))
    have refuses (u : State) : takeSetEnables [high, low] u = refuse .badArgument u := by
      rw [takeSetEnables, args]
    exact request_refused takes fits (status := .badArgument) (by decide) (refuses _)

/-! ### The start of a selection (R172, R173) -/

/-- R173: the bits of the byte that goes out first. -/
theorem prefixByte_bits (s : State) :
    s.prefixByte.getLsbD 7 = true ∧ s.prefixByte.getLsbD 6 = s.latch.attn ∧ s.prefixByte.extractLsb' 3 3 = 0 ∧
    (s.prefixByte.extractLsb' 0 3).toNat = s.station.state.code := by
  unfold State.prefixByte
  generalize s.latch.attn = attn, s.station.state = state
  cases attn <;> cases state <;> exact ⟨rfl, rfl, rfl, rfl⟩

/-- R173: in the CODE phase of an open selection SDO carries that byte. -/
theorem sdo_code {s : State} (low : s.pins.selLow = true) (high : s.pins.resetLow = false) (code : s.port.phase = .code) :
    s.sdo = some s.prefixByte := by
  simp [State.sdo, low, high, code]

/-- 10.6: a request command is its bytes, the code first. -/
theorem exec_request {c : Instr} {code : Byte} {bytes : List Byte} (request : requestOf c = some (code, bytes))
    (formed : c.wellFormed = true) (s : State) : exec c s = .next (State.clockBytes (code :: bytes) s) := by
  cases c <;> cases request
  case unknownRequest =>
    have unknown : ¬ requestCodes.contains code = true := by simpa [Instr.wellFormed] using formed
    exact congrArg Host.Outcome.next (if_neg unknown)
  all_goals rfl

/-- R172, R173: a byte in the CODE phase. -/
theorem clock_code {s : State} (phase : s.port.phase = .code) (free : s.port.held = false) (b : Byte) :
    State.clock s b = State.clockCode b s := by
  rw [State.clock, if_neg (by rw [free]; nofun), phase]

/-- R172: SEL falls on a DESELECTED port out of reset. -/
theorem selFalls_eq {s : State} (high : s.pins.selLow = false) (out : s.pins.resetLow = false)
    (deselected : s.port.phase = .deselected) : s.selFalls = { s with
      pins := { s.pins with selLow := true }, port := { Port.reset with phase := .code, held := s.port.held } } := by
  simp [State.selFalls, State.setSel, Port.selected, high, out, deselected]

/-- Settles O17: the fall of SEL, and then the code byte. -/
theorem selFallsBeginsSelection : Obligations.SelFallsBeginsSelection := by
  refine ⟨fun s high out deselected => ?_, fun c code s request formed phase free => ?_⟩
  · obtain ⟨first, -⟩ := prefixByte_bits { s with
      pins := { s.pins with selLow := true }, port := { Port.reset with phase := .code, held := s.port.held } }
    exact ⟨_, congrArg Host.Outcome.next (selFalls_eq high out deselected), rfl, _, sdo_code rfl out rfl, first⟩
  · obtain ⟨first, attn, unused, state⟩ := prefixByte_bits s
    refine ⟨s.prefixByte, ?_, first, attn, unused, state, fun low out => sdo_code low out phase⟩
    rw [exec_request request formed, clockBytes_cons, clockBytes_nil, clock_code phase free]
    rfl

end Sys2Proof.Proofs
end

section
/-! SUPPORT. The request table by its codes, and the statement on the requests that the port answers before any block. -/

namespace Sys2Proof.Proofs

open Sys2Proof Sys2Proof.Machine Sys2Proof.Safety

/-! ### The request table (10.6) -/

theorem requestTable_codes : requestTable.map RequestRow.code = requestCodes := rfl

theorem requestRow_none {code : Byte} (unknown : code ∉ requestCodes) : requestRow code = none := by
  refine List.find?_eq_none.mpr fun row mem same => unknown ?_
  rw [← requestTable_codes, ← beq_iff_eq.mp same]
  exact List.mem_map_of_mem mem

theorem requestRow_some {code : Byte} (known : code ∈ requestCodes) :
    ∃ row ∈ requestTable, requestRow code = some row ∧ row.code = code := by
  rw [← requestTable_codes] at known
  obtain ⟨listed, mem, is⟩ := List.mem_map.mp known
  have found : (requestRow code).isSome := List.find?_isSome.mpr ⟨listed, mem, beq_iff_eq.mpr is⟩
  obtain ⟨row, found⟩ := Option.isSome_iff_exists.mp found
  exact ⟨row, List.mem_of_find?_eq_some found, found, by simpa using List.find?_some found⟩

/-- R174, R175: a count that a row needs is the one, or for PUSH one of those, that the statements name. -/
theorem countFits_of_needs {row : RequestRow} (mem : row ∈ requestTable) {n : Nat} (needed : row.needs n = true) :
    countFits row.code n := by
  simp only [requestTable, List.mem_cons, List.not_mem_nil, or_false] at mem
  rcases mem with rfl | rfl | rfl | rfl | rfl | rfl | rfl | rfl | rfl | rfl | rfl | rfl | rfl | rfl | rfl | rfl | rfl | rfl | rfl
  -- PUSH, the ninth row, needs no single count.
  on_goal 9 => simpa [countFits] using needed
  all_goals
    obtain rfl := beq_iff_eq.mp needed
    unfold countFits
    decide

/-! ### The answers of the port (R175) -/

/-- R174 to R176: a complete request that is refused before its block sees it is answered with the status alone. -/
theorem port_refuses {c : Instr} {code n : Byte} {args : List Byte} {s : State} {status : Status}
    (request : requestOf c = some (code, n :: args)) (formed : c.wellFormed = true) (whole : completes n args)
    (phase : s.port.phase = .code) (free : s.port.held = false) (refusal : status ≠ .done)
    (refuses : answerRequest (requestRow code) n args (atTaking s code n args) = refuse status (atTaking s code n args)) :
    exec c s = .next (answeredOnly s code n args status.value) := by
  rw [exec_request request formed, clock_complete phase free whole, refuses, present_refuse refusal]

/-- Settles O18: by the three checks of the port in their order. -/
theorem portAnswersBeforeBlocks : Obligations.PortAnswersBeforeBlocks := by
  intro c code n args s request formed whole phase free
  refine ⟨fun starting => ?_, fun started unknown => ?_, fun started known misfit => ?_⟩
  · exact port_refuses request formed whole phase free (status := .notReady) (by decide) (if_pos starting)
  · refine port_refuses request formed whole phase free (status := .unknown) (by decide) ?_
    rw [requestRow_none unknown]
    exact if_neg started
  · obtain ⟨row, mem, found, rfl⟩ := requestRow_some known
    have misfits : row.needs n.toNat = false := Bool.eq_false_iff.mpr (mt (countFits_of_needs mem) misfit)
    refine port_refuses request formed whole phase free (status := .badArgument) (by decide) ?_
    rw [found]
    exact (if_neg started).trans (if_pos (by rw [misfits]; rfl))

end Sys2Proof.Proofs
end

section
/-! SUPPORT. The byte that goes out on SDO while a byte comes in: no request writes what SDO has carried, and each phase of
the port shifts out what SDO shows. -/

namespace Sys2Proof.Proofs

open Sys2Proof Sys2Proof.Machine Sys2Proof.Safety

/-! ### What SDO has carried, through a request (R176) -/

section Requests
variable (args : List Byte) (s : State)

theorem leaveIfDone_shifted : s.leaveIfDone.port.shifted = s.port.shifted := by
  unfold State.leaveIfDone; split <;> rfl

theorem beginClose_shifted (n : StreamNo) : (State.beginClose n s).port.shifted = s.port.shifted := by
  rw [beginClose_eq]

theorem closeStreams_shifted (ns : List StreamNo) : (State.closeStreams ns s).port.shifted = s.port.shifted := by
  induction ns generalizing s with
  | nil => rfl
  | cons n ns ih => exact (ih _).trans (beginClose_shifted s n)

theorem takeStop_shifted : (takeStop args s).after.port.shifted = s.port.shifted := by
  unfold takeStop; split
  · rfl
  · rfl
  · exact (leaveIfDone_shifted _).trans (closeStreams_shifted _ _)
  · rfl

theorem takeCloseStream_shifted : (takeCloseStream args s).after.port.shifted = s.port.shifted := by
  unfold takeCloseStream; split
  · rfl
  · next n _ =>
    split
    · rfl
    · refine (leaveIfDone_shifted _).trans ?_
      split <;> exact beginClose_shifted s n

end Requests

/-- 10.6: no block writes what SDO has carried. -/
theorem row_shifted {row : RequestRow} (mem : row ∈ requestTable) (args : List Byte) (s : State) :
    (row.take args s).after.port.shifted = s.port.shifted := by
  simp only [requestTable, List.mem_cons, List.not_mem_nil, or_false] at mem
  rcases mem with rfl | rfl | rfl | rfl | rfl | rfl | rfl | rfl | rfl | rfl | rfl | rfl | rfl | rfl | rfl | rfl | rfl | rfl | rfl
  · simp only [takeSetup]; (repeat' split) <;> rfl
  · simp only [takeStart]; (repeat' split) <;> rfl
  · exact takeStop_shifted args s
  · rfl
  · simp only [takeOpenStream]; (repeat' split) <;> rfl
  · exact takeCloseStream_shifted args s
  · simp only [takeSuspended]; (repeat' split) <;> rfl
  · simp only [takeSuspended]; (repeat' split) <;> rfl
  · simp only [takePush]; (repeat' split) <;> rfl
  · simp only [takeFlush]; (repeat' split) <;> rfl
  · simp only [takeTapOn]; (repeat' split) <;> rfl
  · simp only [takeTapOff]; (repeat' split) <;> rfl
  · simp only [takePull]; (repeat' split) <;> rfl
  · rfl
  · simp only [takeReadStream]; (repeat' split) <;> rfl
  · simp only [takeReadTap]; (repeat' split) <;> rfl
  · rfl
  · rfl
  · simp only [takeSetEnables]; (repeat' split) <;> rfl

/-- R174, R175: the taking of a complete request shifts nothing. -/
theorem takeRequest_shifted (s : State) : s.takeRequest.port.shifted = s.port.shifted := by
  show (answerRequest _ _ _ _).after.port.shifted = s.port.shifted
  unfold answerRequest
  split
  · rfl
  · split
    · rfl
    · next row found =>
      split
      · rfl
      · exact row_shifted (List.mem_of_find?_eq_some found) _ _

/-! ### One byte (R172 to R176) -/

section Bytes
variable {s : State} (free : s.port.held = false) (b : Byte)
include free

theorem clock_count (phase : s.port.phase = .count) : State.clock s b = State.clockCount b s := by
  rw [State.clock, if_neg (by rw [free]; nofun), phase]

theorem clock_argument (phase : s.port.phase = .arguments) : State.clock s b = State.clockArgument b s := by
  rw [State.clock, if_neg (by rw [free]; nofun), phase]

theorem clock_answer (phase : s.port.phase = .answer) : State.clock s b = s.clockAnswer := by
  rw [State.clock, if_neg (by rw [free]; nofun), phase]

theorem clock_filler (phase : s.port.phase = .filler) : State.clock s b = State.modifyPort (Port.shift 0) s := by
  rw [State.clock, if_neg (by rw [free]; nofun), phase]

end Bytes

/-- R172: a port that is held or DESELECTED ignores SCK. -/
theorem clock_ignored {s : State} (ignores : s.port.phase = .deselected ∨ s.port.held = true) (b : Byte) :
    State.clock s b = s := by
  unfold State.clock
  split
  · rfl
  · next free => rw [ignores.resolve_right free]

theorem clockCount_shifted (b : Byte) (s : State) : (State.clockCount b s).port.shifted = s.port.shifted ++ [0] := by
  simp only [State.clockCount]
  split
  · rfl
  · exact takeRequest_shifted _

theorem clockArgument_shifted (b : Byte) (s : State) : (State.clockArgument b s).port.shifted = s.port.shifted ++ [0] := by
  simp only [State.clockArgument]
  split
  · rfl
  · exact takeRequest_shifted _

/-! ### The answer (R176) -/

/-- R107, R169: a commit leaves the port as it is. -/
theorem commitOwed_port (s : State) : s.commitOwed.port = s.port := by
  unfold State.commitOwed
  split
  · unfold State.commitPull; split <;> rfl
  · rfl
  · rfl

/-- R176: a byte of the answer that is not its last. -/
theorem clockAnswer_more {s : State} {x : Byte} (more : s.port.answered + 1 < s.port.answer.length)
    (next : s.port.answer[s.port.answered]? = some x) : s.clockAnswer = { s with port := { s.port with
      answered := s.port.answered + 1, shifted := s.port.shifted ++ [x] } } := by
  rw [State.clockAnswer, if_pos more]
  simp only [State.modifyPort, Port.shift, next, Option.getD_some]

/-- R176: the last byte of the answer. -/
theorem clockAnswer_last {s : State} (last : s.port.answered + 1 = s.port.answer.length) : s.clockAnswer = s.answerOut :=
  if_neg (by omega)

/-- R176: what of the answer is still to go out, at its last byte. -/
theorem drop_last {l : List Byte} {i : Nat} {x : Byte} (last : i + 1 = l.length) (next : l[i]? = some x) :
    l.drop i = [x] := by
  obtain ⟨within, rfl⟩ := List.getElem?_eq_some_iff.mp next
  rw [List.drop_eq_getElem_cons within, List.drop_of_length_le last.ge]

theorem clockAnswer_shifted {s : State} {x : Byte} (next : s.port.answer[s.port.answered]? = some x) :
    s.clockAnswer.port.shifted = s.port.shifted ++ [x] := by
  obtain ⟨within, -⟩ := List.getElem?_eq_some_iff.mp next
  by_cases more : s.port.answered + 1 < s.port.answer.length
  · rw [clockAnswer_more more next]
  · have last : s.port.answered + 1 = s.port.answer.length := by omega
    rw [clockAnswer_last last, ← drop_last last next, ← commitOwed_port s]
    rfl

/-- R172 to R174, R176: what SDO shows is what the next byte shifts out. -/
theorem sdo_shifts {s : State} (b : Byte) (awake : s.port.phase ≠ .deselected) (free : s.port.held = false)
    (low : s.pins.selLow = true) (high : s.pins.resetLow = false)
    (left : s.port.phase = .answer → s.port.answered < s.port.answer.length) :
    ∃ out, s.sdo = some out ∧ (State.clock s b).port.shifted.getLast? = some out := by
  have ends (shifted : List Byte) (out : Byte) : (shifted ++ [out]).getLast? = some out := List.getLast?_concat
  cases phase : s.port.phase with
  | deselected => exact absurd phase awake
  | code => exact ⟨_, sdo_code low high phase, by rw [clock_code phase free]; rfl⟩
  | count =>
    refine ⟨0, by simp [State.sdo, low, high, phase], ?_⟩
    rw [clock_count free b phase, clockCount_shifted, ends]
  | arguments =>
    refine ⟨0, by simp [State.sdo, low, high, phase], ?_⟩
    rw [clock_argument free b phase, clockArgument_shifted, ends]
  | answer =>
    have next := List.getElem?_eq_getElem (left phase)
    refine ⟨s.port.answer[s.port.answered]'(left phase), by simp [State.sdo, low, high, phase, next], ?_⟩
    rw [clock_answer free b phase, clockAnswer_shifted next, ends]
  | filler =>
    refine ⟨0, by simp [State.sdo, low, high, phase], ?_⟩
    rw [clock_filler free b phase]
    exact ends _ _

end Sys2Proof.Proofs
end

section
/-! SUPPORT. A request whose bytes come in pieces or not at all, and the statement on what reaches no block. -/

namespace Sys2Proof.Proofs

open Sys2Proof Sys2Proof.Machine Sys2Proof.Safety

/-- R174: the code, a count of 1 to 40 and fewer arguments than the count. -/
theorem clock_incomplete {s : State} {code n : Byte} {args : List Byte} (phase : s.port.phase = .code)
    (free : s.port.held = false) (few : n.toNat ≤ 40) (lacks : args.length < n.toNat) :
    State.clockBytes (code :: n :: args) s = inArguments s code n args := by
  have counted : State.clockCount n (State.clockCode code s) = inArguments s code n [] :=
    if_pos ⟨by omega, few⟩
  rw [clockBytes_cons, clockBytes_cons, clock_code phase free, clock_count (s := State.clockCode code s) free n rfl, counted,
    clock_arguments s code n [] args free (by simpa using lacks), List.nil_append]

/-- R172: bytes that the port ignores. -/
theorem clockBytes_ignored {s : State} (ignores : s.port.phase = .deselected ∨ s.port.held = true) (bytes : List Byte) :
    State.clockBytes bytes s = s := by
  induction bytes with
  | nil => rfl
  | cons b bytes ih => rw [clockBytes_cons, clock_ignored ignores, ih]

/-- R178: the end of an answer that owes nothing. -/
theorem answerOut_free {s : State} {x : Byte} (owes : s.port.owes = none)
    (last : s.port.answered + 1 = s.port.answer.length) (next : s.port.answer[s.port.answered]? = some x) :
    s.answerOut = { s with port := { s.port with
      phase := .filler, answered := s.port.answered + 1, shifted := s.port.shifted ++ [x] } } := by
  simp only [State.answerOut, State.commitOwed, State.modifyPort, owes, drop_last last next, last]

/-- R107, R178: the commit of a PULL is the rest of its answer going out. -/
theorem exec_pullCommit_answerOut {s : State} {t : TapNo} (owes : s.port.owes = some (.pull t)) :
    exec .pullCommit s = .next s.answerOut := by
  show execPullCommit s = _
  rw [execPullCommit, owes]

/-- R169, R178: the commit of a READ_EVENTS is the rest of its answer going out. -/
theorem exec_readEventsCommit_answerOut {s : State} (owes : s.port.owes = some .readEvents) :
    exec .readEventsCommit s = .next s.answerOut := by
  show execReadEventsCommit s = _
  rw [execReadEventsCommit, owes]

/-- Settles O19: by the phase of the port, byte for byte. -/
theorem incompleteRequestReachesNoBlock : Obligations.IncompleteRequestReachesNoBlock := by
  intro c code bytes s request formed
  have clocks := exec_request request formed s
  have clocksOne (alone : bytes = []) : exec c s = .next (State.clock s code) := by
    rw [clocks, alone, clockBytes_cons, clockBytes_nil]
  refine ⟨fun phase free => ⟨fun alone => ?_, fun n args counted few lacks => ?_⟩, fun ignores => ?_,
    fun c₁ c₂ first x rest cut request₁ formed₁ request₂ formed₂ => ?_, fun phase free alone => ?_,
    fun phase free alone => ?_, fun awake free low high alone left => ?_⟩
  · rw [clocksOne alone, clock_code phase free]
    rfl
  · rw [clocks, counted, clock_incomplete phase free few lacks]
    rfl
  · rw [clocks, clockBytes_ignored ignores]
  · refine ⟨_, exec_request request₁ formed₁ s, ?_⟩
    rw [clocks, cut, ← List.cons_append, clockBytes_append, exec_request request₂ formed₂]
  · rw [clocksOne alone, clock_answer free code phase]
    refine ⟨fun x more next => ?_, fun x last next => ?_⟩
    · rw [clockAnswer_more more next]
    · rw [clockAnswer_last last]
      exact ⟨fun owes => by rw [answerOut_free owes last next], fun t owes => (exec_pullCommit_answerOut owes).symm,
        fun owes => (exec_readEventsCommit_answerOut owes).symm⟩
  · rw [clocksOne alone, clock_filler free code phase]
    rfl
  · obtain ⟨out, shows, shifted⟩ := sdo_shifts code awake free low high left
    exact ⟨_, out, clocksOne alone, shows, shifted⟩

end Sys2Proof.Proofs
end

section
/-! SUPPORT. Requests that read a record, and the statement on the records of READ_STATUS, READ_STREAM, READ_TAP and PULL. -/

namespace Sys2Proof.Proofs

open Sys2Proof Sys2Proof.Machine Sys2Proof.Safety

/-! ### READ_STATUS, READ_STREAM and READ_TAP (R186, R187) -/

/-- R175, R176: a request that only reads is answered DONE and the record, and nothing but the port changes. -/
theorem request_reads {s : State} {code n : Byte} {args data : List Byte} {row : RequestRow} (takes : TakesRequests s)
    (fits : RequestFits row code n args)
    (reads : row.take args (atTaking s code n args) = answerWith data (atTaking s code n args)) :
    (.next (State.clockBytes (code :: n :: args) s) : Host.Outcome State Fault Refusal) =
      .next { s with port := answeredPort s code n args (1 :: data) } :=
  request_answered (u := atTaking s code n args) takes fits reads rfl

theorem takeReadStream_eq (n : StreamNo) (u : State) :
    takeReadStream [byteOf n] u = answerWith u.streams[n].record u := by
  rw [takeReadStream, streamArgs_byteOf]

theorem takeReadTap_eq (t : TapNo) (u : State) : takeReadTap [byteOf t] u = answerWith u.taps[t].record u := by
  rw [takeReadTap, tapArgs_byteOf]

/-- R186: two yes-or-no items in bits 0 and 1 of a byte. -/
theorem twoBits_eq (a b : Bool) :
    bitAt 0 a ||| bitAt 1 b = BitVec.ofNat 8 ((if a then 1 else 0) + (if b then 2 else 0)) := by
  cases a <;> cases b <;> rfl

/-- R186: the in-flight items of a stream, in bits 1 and 2 of the second byte of READ_STREAM, beside the suspended item. -/
theorem flightBits_eq (suspended discard : Bool) :
    bitAt 0 suspended ||| bitAt 1 true ||| bitAt 2 discard =
      BitVec.ofNat 8 ((if suspended then 1 else 0) + (if discard then 6 else 2)) := by
  cases suspended <;> cases discard <;> rfl

/-! ### The bytes of an answer (R176) -/

/-- R176: the port after `k` more bytes of the answer. -/
def inAnswer (s : State) (k : Nat) : State := { s with port := { s.port with
  answered := s.port.answered + k
  shifted := s.port.shifted ++ (s.port.answer.drop s.port.answered).take k } }

section Answer
variable {s : State} (phase : s.port.phase = .answer) (free : s.port.held = false)
include phase free

/-- R176: one byte more, which is not the answer's last. -/
theorem clock_inAnswer {k : Nat} (more : s.port.answered + k + 1 < s.port.answer.length) (b : Byte) :
    State.clock (inAnswer s k) b = inAnswer s (k + 1) := by
  have next : s.port.answer[s.port.answered + k]? = some (s.port.answer[s.port.answered + k]'(by omega)) :=
    List.getElem?_eq_getElem _
  rw [clock_answer (s := inAnswer s k) free b phase, clockAnswer_more (s := inAnswer s k) more next, inAnswer, inAnswer]
  simp only [List.take_add_one, List.getElem?_drop, next, Option.toList_some, List.append_assoc, Nat.add_assoc]

/-- R176: bytes that leave the answer's last byte to come. -/
theorem clockBytes_inAnswer (bytes : List Byte) {k : Nat}
    (more : s.port.answered + k + bytes.length < s.port.answer.length) :
    State.clockBytes bytes (inAnswer s k) = inAnswer s (k + bytes.length) := by
  induction bytes generalizing k with
  | nil => rfl
  | cons b bytes ih =>
    rw [List.length_cons] at more ⊢
    rw [clockBytes_cons, clock_inAnswer phase free (by omega), ih (by omega), Nat.add_right_comm, Nat.add_assoc]

/-- R107, R178: the last byte of the answer of a PULL is its commit. -/
theorem last_byte_commits {t : TapNo} (owes : s.port.owes = some (.pull t)) (bytes : List Byte)
    (last : s.port.answered + bytes.length + 1 = s.port.answer.length) (z : Byte) :
    (State.clockBytes bytes s).port.owes = some (.pull t) ∧
    .next (State.clockBytes (bytes ++ [z]) s) = exec .pullCommit (State.clockBytes bytes s) := by
  have clocked : State.clockBytes bytes s = inAnswer s bytes.length := by
    have start : inAnswer s 0 = s := by simp [inAnswer]
    rw [← Nat.zero_add bytes.length, ← clockBytes_inAnswer phase free bytes (by omega), start]
  rw [clockBytes_append, clocked, clockBytes_cons, clockBytes_nil, clock_answer (s := inAnswer s bytes.length) free z phase,
    clockAnswer_last (s := inAnswer s bytes.length) last]
  exact ⟨owes, (exec_pullCommit_answerOut (s := inAnswer s bytes.length) owes).symm⟩

end Answer

/-- Settles O20: item by item of the records; the bytes after a PULL one by one. -/
theorem statusStreamAndTapRecords : Obligations.StatusStreamAndTapRecords := by
  refine ⟨fun s n takes => ⟨?_, ?_⟩, fun s t takes => ⟨?_, fun f rest on queue => ?_⟩⟩
  · have fits : RequestFits { code := 64, needs := (· == 0), take := takeReadStatus } 64 0 [] := ⟨rfl, rfl, by decide, rfl⟩
    refine ⟨s.statusRecord, request_reads takes fits rfl, ?_⟩
    rw [State.statusRecord, twoBits_eq]
    cases s.station.state <;> rfl
  · have fits : RequestFits { code := 65, needs := (· == 1), take := takeReadStream } 65 1 [byteOf n] :=
      ⟨rfl, rfl, by decide, rfl⟩
    refine ⟨s.streams[n].record, request_reads takes fits (takeReadStream_eq n _), ?_⟩
    generalize s.streams[n] = st
    refine congrArg₂ List.cons ?_ (congrArg₂ List.cons ?_ rfl)
    · cases st.state <;> rfl
    · cases st.inFlight with
      | none => cases st.suspended <;> rfl
      | some f => exact flightBits_eq st.suspended f.discard
  · have fits : RequestFits { code := 66, needs := (· == 1), take := takeReadTap } 66 1 [byteOf t] :=
      ⟨rfl, rfl, by decide, rfl⟩
    refine (request_reads (data := s.taps[t].record) takes fits (takeReadTap_eq t _)).trans ?_
    rw [Tap.record]
    cases s.taps[t].state <;> cases s.taps[t].policy <;> rfl
  · obtain ⟨-, -, pulls⟩ := pullMarksHead s t takes
    have pulled := pulls f rest on queue
    obtain ⟨-, free, -⟩ := takes
    refine ⟨⟨_, pulled, rfl⟩, fun empty x y z => ?_⟩
    have clocked := Host.Outcome.next.inj pulled
    obtain ⟨owes, commits⟩ := last_byte_commits (s := State.clockBytes [50, 1, byteOf t] s) (t := t)
      (by rw [clocked]; rfl) (by rw [clocked]; exact free) (by rw [clocked]) [x, y] (by rw [clocked, empty]; rfl) z
    exact ⟨_, rfl, owes, commits⟩

end Sys2Proof.Proofs
end

section
/-! SUPPORT. The two bytes of an entry, and the statement on the record of READ_MAP. -/

namespace Sys2Proof.Proofs

open Sys2Proof Sys2Proof.Machine Sys2Proof.Safety

/-- Of a list of pairs of bytes, one pair for each element, all the bytes in order. -/
theorem flatMap_pairs {α : Type} {f : α → List Byte} {first second : α → Byte} (pair : ∀ a, f a = [first a, second a])
    (l : List α) : (l.flatMap f).length = 2 * l.length ∧ ∀ {i : Nat} {a : α}, l[i]? = some a →
      (l.flatMap f)[2 * i]? = some (first a) ∧ (l.flatMap f)[2 * i + 1]? = some (second a) := by
  induction l with
  | nil => exact ⟨rfl, nofun⟩
  | cons b l ih =>
    obtain ⟨length, items⟩ := ih
    rw [List.flatMap_cons, pair]
    refine ⟨by simp [length]; omega, fun {i} {a} found => ?_⟩
    cases i with
    | zero => cases found; exact ⟨rfl, rfl⟩
    | succ i => exact items found

/-- R188: the first byte of an entry. -/
def stateAndOwner (e : EntryState) : Byte := topTwo (BitVec.ofNat 2 (mapItems e).1) (mapItems e).2.1

/-- R188: the second byte of an entry. -/
def streamByte (e : EntryState) : Byte :=
  (0 : BitVec 1) ++ BitVec.ofNat 3 (mapItems e).2.2.1 ++ BitVec.ofNat 4 (mapItems e).2.2.2

theorem entry_record (e : EntryState) : e.record = [stateAndOwner e, streamByte e] := by cases e <;> rfl

theorem mapItems_state (e : EntryState) : (mapItems e).1 < 4 := by cases e <;> simp [mapItems]

theorem mapItems_stream (e : EntryState) : (mapItems e).2.2.1 < 8 := by
  cases e with
  | pending _ n | held _ n => exact n.isLt
  | _ => exact Nat.zero_lt_succ _

theorem toNat_ofNat_of_lt {w k : Nat} (small : k < 2 ^ w) : (BitVec.ofNat w k).toNat = k := by
  rw [BitVec.toNat_ofNat, Nat.mod_eq_of_lt small]

theorem stateAndOwner_items (e : EntryState) (owner : (mapItems e).2.1 < 64) :
    ((stateAndOwner e).extractLsb' 6 2).toNat = (mapItems e).1 ∧
    ((stateAndOwner e).extractLsb' 0 6).toNat = (mapItems e).2.1 := by
  rw [stateAndOwner, topTwo, BitVec.extractLsb'_append_eq_left, BitVec.extractLsb'_append_eq_right]
  exact ⟨toNat_ofNat_of_lt (mapItems_state e), toNat_ofNat_of_lt owner⟩

theorem streamByte_items (e : EntryState) (count : (mapItems e).2.2.2 < 16) :
    (streamByte e).getLsbD 7 = false ∧
    ((streamByte e).extractLsb' 4 3).toNat = (mapItems e).2.2.1 ∧
    ((streamByte e).extractLsb' 0 4).toNat = (mapItems e).2.2.2 := by
  rw [streamByte, BitVec.extractLsb'_append_eq_of_le (by decide), BitVec.extractLsb'_append_eq_right,
    BitVec.extractLsb'_append_eq_right]
  refine ⟨?_, toNat_ofNat_of_lt (mapItems_stream e), toNat_ofNat_of_lt count⟩
  rw [BitVec.getLsbD_append, BitVec.getLsbD_append]
  rfl

/-- Settles O21: by the two bytes of each entry, and where they stand. -/
theorem mapRecord : Obligations.MapRecord := by
  intro s takes small
  have fits : RequestFits { code := 67, needs := (· == 0), take := takeReadMap } 67 0 [] := ⟨rfl, rfl, by decide, rfl⟩
  obtain ⟨length, items⟩ := flatMap_pairs (fun k : Slot => entry_record s.map[k].state) allSlots
  refine ⟨s.map.record, request_reads takes fits rfl, length, fun k => ?_⟩
  have found : allSlots[k.val]? = some k := by simp [allSlots]
  obtain ⟨first, second⟩ := items found
  obtain ⟨owner, count⟩ := small k
  obtain ⟨state, ownerRead⟩ := stateAndOwner_items _ owner
  exact ⟨_, _, first, second, state, ownerRead, streamByte_items _ count⟩

end Sys2Proof.Proofs
end

section
/-! SUPPORT. The step by what waits in the queue, and the statement that a step takes the command at its front. -/

namespace Sys2Proof.Proofs

open Sys2Proof Sys2Proof.Machine

/-- The oldest waiting command is carried out, with the others left in the queue. -/
theorem step_of_pending_cons {s : State} {c : Instr} {rest : List Instr} (waits : s.pending = c :: rest) :
    step s = exec c { s with pending := rest } := by
  rw [step, waits]

/-- With no command waiting the block idles (assumption log 6). -/
theorem step_of_pending_nil {s : State} (empty : s.pending = []) : step s = .next s := by
  rw [step, empty]

/-- Settles O1: by the two cases of the queue. -/
theorem stepTakesFrontCommand : Obligations.StepTakesFrontCommand :=
  fun _ _ _ => ⟨step_of_pending_cons rfl, step_of_pending_nil rfl⟩

end Sys2Proof.Proofs
end
